-- ==== Sys2Proof/Word.lean ====
section
/-! DEFINITION. The two word sizes of the machine (rule R5) and the names its opcode fields can take:
registers (R10), pairs (R11, R63), condition codes (R64) and the eight accumulator operations (R68). -/

namespace Sys2Proof

/-- A byte, bits 7..0, bit 0 the least significant (R5). -/
abbrev Byte := BitVec 8

/-- A 16-bit word, bits 15..0 (R5). -/
abbrev Word := BitVec 16

/-- The seven 8-bit registers (R10). `M` is not among them: it is the memory byte at HL (R62). -/
inductive Reg where
  | b | c | d | e | h | l | a
  deriving DecidableEq, Repr

/-- The operands of LXI, INX, DCX and DAD: three register pairs and SP (R63). -/
inductive Pair where
  | bc | de | hl | sp
  deriving DecidableEq, Repr

/-- The register pairs PUSH and POP take; PSW has instructions of its own (R63, R172). -/
inductive StackPair where
  | bc | de | hl
  deriving DecidableEq, Repr

/-- The pairs LDAX and STAX can address through (R63, R158). -/
inductive IndexPair where
  | bc | de
  deriving DecidableEq, Repr

/-- The eight condition codes of jumps, calls and returns, in the order of rule R64. -/
inductive Cond where
  | nz | z | nc | c | po | pe | p | m
  deriving DecidableEq, Repr

/-- The eight operations of quadrant 10 and of the immediate column, in the order of rule R68. -/
inductive AluOp where
  | add | adc | sub | sbb | ana | xra | ora | cmp
  deriving DecidableEq, Repr

/-- The operand forms of the accumulator instructions: "a register, the memory byte at the HL pair, or an
immediate byte following the opcode" (file 40_arithmetic.md). -/
inductive Src where
  | reg (r : Reg)
  | m
  | imm (v : Byte)
  deriving DecidableEq, Repr

end Sys2Proof
end

