-- ==== Sys2Proof/Config.lean ====
section
/-! DEFINITION. The implementation parameters of rule R4 whose value the spec fixes. The one OPEN parameter,
CYCLES, is not here: it stands in State as plain data (log entry 3), its default table in Machine/Cycles.lean. -/

namespace Sys2Proof.Config

/-- RESET_PC (R4, R20, R271). -/
def resetPc : Word := 0x0100#16

/-- RESET_SP (R4, R20). -/
def resetSp : Word := 0x0000#16

/-- RESET_MEM: what every byte of memory holds until something writes it (R4, R20). -/
def resetByte : Byte := 0x00#8

/-- MEM_BYTES (R4, R40). -/
def memBytes : Nat := 65536

/-- UNKNOWN_SET: the first bytes that raise the decode-error report (R4, R70). -/
def unknownSet : List Byte := [0xCB#8, 0xD9#8, 0xDD#8, 0xED#8, 0xFD#8]

/-- NOP_DUP_SET: the first bytes that act as NOP (R4, R70). -/
def nopDupSet : List Byte := [0x08#8, 0x10#8, 0x18#8, 0x20#8, 0x28#8, 0x30#8, 0x38#8]

/-- The thirteen recognized-but-unimplemented first bytes: HLT, RST 0..7, OUT, IN, DI, EI (R70). -/
def unimplementedSet : List Byte :=
  [0x76#8, 0xC7#8, 0xCF#8, 0xD7#8, 0xDF#8, 0xE7#8, 0xEF#8, 0xF7#8, 0xFF#8, 0xD3#8, 0xDB#8, 0xF3#8, 0xFB#8]

end Sys2Proof.Config
end

