-- ==== Sys2Proof/Syntax.lean ====
section
/-! DEFINITION. The instructions: one constructor per row of spec/opcode_table.json: first the
44 rows with operand bytes, then the 212 rows of one byte, each in the table's order (Lean compiles constructors
with arguments only at low indices). Operands that a row's opcode byte fixes are in the constructor's name (`movBC` is
MOV B,C; M is the memory byte at HL); operand bytes are arguments: `d8` and `port` instruction byte 2,
`d16` and `a16` the word of bytes 2 and 3 (R60, R61, R65). -/

namespace Sys2Proof

/-- The 256 rows of the opcode table (R66 to R70). -/
inductive Instr where
  /-- 0x01: LXI B,d16 (R155). -/
  | lxiB (d16 : Word)
  /-- 0x06: MVI B,d8 (R153). -/
  | mviB (d8 : Byte)
  /-- 0x0E: MVI C,d8 (R153). -/
  | mviC (d8 : Byte)
  /-- 0x11: LXI D,d16 (R155). -/
  | lxiD (d16 : Word)
  /-- 0x16: MVI D,d8 (R153). -/
  | mviD (d8 : Byte)
  /-- 0x1E: MVI E,d8 (R153). -/
  | mviE (d8 : Byte)
  /-- 0x21: LXI H,d16 (R155). -/
  | lxiH (d16 : Word)
  /-- 0x22: SHLD a16 (R161). -/
  | shld (a16 : Word)
  /-- 0x26: MVI H,d8 (R153). -/
  | mviH (d8 : Byte)
  /-- 0x2A: LHLD a16 (R160). -/
  | lhld (a16 : Word)
  /-- 0x2E: MVI L,d8 (R153). -/
  | mviL (d8 : Byte)
  /-- 0x31: LXI SP,d16 (R155). -/
  | lxiSp (d16 : Word)
  /-- 0x32: STA a16 (R157). -/
  | sta (a16 : Word)
  /-- 0x36: MVI M,d8 (R154). -/
  | mviM (d8 : Byte)
  /-- 0x3A: LDA a16 (R156). -/
  | lda (a16 : Word)
  /-- 0x3E: MVI A,d8 (R153). -/
  | mviA (d8 : Byte)
  /-- 0xC2: JNZ a16 (R183). -/
  | jnz (a16 : Word)
  /-- 0xC3: JMP a16 (R182). -/
  | jmp (a16 : Word)
  /-- 0xC4: CNZ a16 (R185). -/
  | cnz (a16 : Word)
  /-- 0xC6: ADI d8 (R111). -/
  | adi (d8 : Byte)
  /-- 0xCA: JZ a16 (R183). -/
  | jz (a16 : Word)
  /-- 0xCC: CZ a16 (R185). -/
  | cz (a16 : Word)
  /-- 0xCD: CALL a16 (R184). -/
  | call (a16 : Word)
  /-- 0xCE: ACI d8 (R112). -/
  | aci (d8 : Byte)
  /-- 0xD2: JNC a16 (R183). -/
  | jnc (a16 : Word)
  /-- 0xD3: OUT d8 (R226). -/
  | outPort (port : Byte)
  /-- 0xD4: CNC a16 (R185). -/
  | cnc (a16 : Word)
  /-- 0xD6: SUI d8 (R113). -/
  | sui (d8 : Byte)
  /-- 0xDA: JC a16 (R183). -/
  | jc (a16 : Word)
  /-- 0xDB: IN d8 (R225). -/
  | inPort (port : Byte)
  /-- 0xDC: CC a16 (R185). -/
  | cc (a16 : Word)
  /-- 0xDE: SBI d8 (R114). -/
  | sbi (d8 : Byte)
  /-- 0xE2: JPO a16 (R183). -/
  | jpo (a16 : Word)
  /-- 0xE4: CPO a16 (R185). -/
  | cpo (a16 : Word)
  /-- 0xE6: ANI d8 (R127). -/
  | ani (d8 : Byte)
  /-- 0xEA: JPE a16 (R183). -/
  | jpe (a16 : Word)
  /-- 0xEC: CPE a16 (R185). -/
  | cpe (a16 : Word)
  /-- 0xEE: XRI d8 (R128). -/
  | xri (d8 : Byte)
  /-- 0xF2: JP a16 (R183). -/
  | jp (a16 : Word)
  /-- 0xF4: CP a16 (R185). -/
  | cp (a16 : Word)
  /-- 0xF6: ORI d8 (R129). -/
  | ori (d8 : Byte)
  /-- 0xFA: JM a16 (R183). -/
  | jm (a16 : Word)
  /-- 0xFC: CM a16 (R185). -/
  | cm (a16 : Word)
  /-- 0xFE: CPI d8 (R134). -/
  | cpi (d8 : Byte)
  /-- 0x00: NOP (R221). -/
  | nop
  /-- 0x02: STAX B (R159). -/
  | staxB
  /-- 0x03: INX B (R139). -/
  | inxB
  /-- 0x04: INR B (R135). -/
  | inrB
  /-- 0x05: DCR B (R137). -/
  | dcrB
  /-- 0x07: RLC (R200). -/
  | rlc
  /-- 0x08: NOP duplicate 0x08 (R222). -/
  | nopDup08
  /-- 0x09: DAD B (R141). -/
  | dadB
  /-- 0x0A: LDAX B (R158). -/
  | ldaxB
  /-- 0x0B: DCX B (R140). -/
  | dcxB
  /-- 0x0C: INR C (R135). -/
  | inrC
  /-- 0x0D: DCR C (R137). -/
  | dcrC
  /-- 0x0F: RRC (R201). -/
  | rrc
  /-- 0x10: NOP duplicate 0x10 (R222). -/
  | nopDup10
  /-- 0x12: STAX D (R159). -/
  | staxD
  /-- 0x13: INX D (R139). -/
  | inxD
  /-- 0x14: INR D (R135). -/
  | inrD
  /-- 0x15: DCR D (R137). -/
  | dcrD
  /-- 0x17: RAL (R202). -/
  | ral
  /-- 0x18: NOP duplicate 0x18 (R222). -/
  | nopDup18
  /-- 0x19: DAD D (R141). -/
  | dadD
  /-- 0x1A: LDAX D (R158). -/
  | ldaxD
  /-- 0x1B: DCX D (R140). -/
  | dcxD
  /-- 0x1C: INR E (R135). -/
  | inrE
  /-- 0x1D: DCR E (R137). -/
  | dcrE
  /-- 0x1F: RAR (R203). -/
  | rar
  /-- 0x20: NOP duplicate 0x20 (R222). -/
  | nopDup20
  /-- 0x23: INX H (R139). -/
  | inxH
  /-- 0x24: INR H (R135). -/
  | inrH
  /-- 0x25: DCR H (R137). -/
  | dcrH
  /-- 0x27: DAA (R220). -/
  | daa
  /-- 0x28: NOP duplicate 0x28 (R222). -/
  | nopDup28
  /-- 0x29: DAD H (R141). -/
  | dadH
  /-- 0x2B: DCX H (R140). -/
  | dcxH
  /-- 0x2C: INR L (R135). -/
  | inrL
  /-- 0x2D: DCR L (R137). -/
  | dcrL
  /-- 0x2F: CMA (R204). -/
  | cma
  /-- 0x30: NOP duplicate 0x30 (R222). -/
  | nopDup30
  /-- 0x33: INX SP (R139). -/
  | inxSp
  /-- 0x34: INR M (R136). -/
  | inrM
  /-- 0x35: DCR M (R138). -/
  | dcrM
  /-- 0x37: STC (R205). -/
  | stc
  /-- 0x38: NOP duplicate 0x38 (R222). -/
  | nopDup38
  /-- 0x39: DAD SP (R141). -/
  | dadSp
  /-- 0x3B: DCX SP (R140). -/
  | dcxSp
  /-- 0x3C: INR A (R135). -/
  | inrA
  /-- 0x3D: DCR A (R137). -/
  | dcrA
  /-- 0x3F: CMC (R206). -/
  | cmc
  /-- 0x40: MOV B,B (R150). -/
  | movBB
  /-- 0x41: MOV B,C (R150). -/
  | movBC
  /-- 0x42: MOV B,D (R150). -/
  | movBD
  /-- 0x43: MOV B,E (R150). -/
  | movBE
  /-- 0x44: MOV B,H (R150). -/
  | movBH
  /-- 0x45: MOV B,L (R150). -/
  | movBL
  /-- 0x46: MOV B,M (R151). -/
  | movBM
  /-- 0x47: MOV B,A (R150). -/
  | movBA
  /-- 0x48: MOV C,B (R150). -/
  | movCB
  /-- 0x49: MOV C,C (R150). -/
  | movCC
  /-- 0x4A: MOV C,D (R150). -/
  | movCD
  /-- 0x4B: MOV C,E (R150). -/
  | movCE
  /-- 0x4C: MOV C,H (R150). -/
  | movCH
  /-- 0x4D: MOV C,L (R150). -/
  | movCL
  /-- 0x4E: MOV C,M (R151). -/
  | movCM
  /-- 0x4F: MOV C,A (R150). -/
  | movCA
  /-- 0x50: MOV D,B (R150). -/
  | movDB
  /-- 0x51: MOV D,C (R150). -/
  | movDC
  /-- 0x52: MOV D,D (R150). -/
  | movDD
  /-- 0x53: MOV D,E (R150). -/
  | movDE
  /-- 0x54: MOV D,H (R150). -/
  | movDH
  /-- 0x55: MOV D,L (R150). -/
  | movDL
  /-- 0x56: MOV D,M (R151). -/
  | movDM
  /-- 0x57: MOV D,A (R150). -/
  | movDA
  /-- 0x58: MOV E,B (R150). -/
  | movEB
  /-- 0x59: MOV E,C (R150). -/
  | movEC
  /-- 0x5A: MOV E,D (R150). -/
  | movED
  /-- 0x5B: MOV E,E (R150). -/
  | movEE
  /-- 0x5C: MOV E,H (R150). -/
  | movEH
  /-- 0x5D: MOV E,L (R150). -/
  | movEL
  /-- 0x5E: MOV E,M (R151). -/
  | movEM
  /-- 0x5F: MOV E,A (R150). -/
  | movEA
  /-- 0x60: MOV H,B (R150). -/
  | movHB
  /-- 0x61: MOV H,C (R150). -/
  | movHC
  /-- 0x62: MOV H,D (R150). -/
  | movHD
  /-- 0x63: MOV H,E (R150). -/
  | movHE
  /-- 0x64: MOV H,H (R150). -/
  | movHH
  /-- 0x65: MOV H,L (R150). -/
  | movHL
  /-- 0x66: MOV H,M (R151). -/
  | movHM
  /-- 0x67: MOV H,A (R150). -/
  | movHA
  /-- 0x68: MOV L,B (R150). -/
  | movLB
  /-- 0x69: MOV L,C (R150). -/
  | movLC
  /-- 0x6A: MOV L,D (R150). -/
  | movLD
  /-- 0x6B: MOV L,E (R150). -/
  | movLE
  /-- 0x6C: MOV L,H (R150). -/
  | movLH
  /-- 0x6D: MOV L,L (R150). -/
  | movLL
  /-- 0x6E: MOV L,M (R151). -/
  | movLM
  /-- 0x6F: MOV L,A (R150). -/
  | movLA
  /-- 0x70: MOV M,B (R152). -/
  | movMB
  /-- 0x71: MOV M,C (R152). -/
  | movMC
  /-- 0x72: MOV M,D (R152). -/
  | movMD
  /-- 0x73: MOV M,E (R152). -/
  | movME
  /-- 0x74: MOV M,H (R152). -/
  | movMH
  /-- 0x75: MOV M,L (R152). -/
  | movML
  /-- 0x76: HLT (R223). -/
  | hlt
  /-- 0x77: MOV M,A (R152). -/
  | movMA
  /-- 0x78: MOV A,B (R150). -/
  | movAB
  /-- 0x79: MOV A,C (R150). -/
  | movAC
  /-- 0x7A: MOV A,D (R150). -/
  | movAD
  /-- 0x7B: MOV A,E (R150). -/
  | movAE
  /-- 0x7C: MOV A,H (R150). -/
  | movAH
  /-- 0x7D: MOV A,L (R150). -/
  | movAL
  /-- 0x7E: MOV A,M (R151). -/
  | movAM
  /-- 0x7F: MOV A,A (R150). -/
  | movAA
  /-- 0x80: ADD B (R103). -/
  | addB
  /-- 0x81: ADD C (R103). -/
  | addC
  /-- 0x82: ADD D (R103). -/
  | addD
  /-- 0x83: ADD E (R103). -/
  | addE
  /-- 0x84: ADD H (R103). -/
  | addH
  /-- 0x85: ADD L (R103). -/
  | addL
  /-- 0x86: ADD M (R104). -/
  | addM
  /-- 0x87: ADD A (R103). -/
  | addA
  /-- 0x88: ADC B (R105). -/
  | adcB
  /-- 0x89: ADC C (R105). -/
  | adcC
  /-- 0x8A: ADC D (R105). -/
  | adcD
  /-- 0x8B: ADC E (R105). -/
  | adcE
  /-- 0x8C: ADC H (R105). -/
  | adcH
  /-- 0x8D: ADC L (R105). -/
  | adcL
  /-- 0x8E: ADC M (R106). -/
  | adcM
  /-- 0x8F: ADC A (R105). -/
  | adcA
  /-- 0x90: SUB B (R107). -/
  | subB
  /-- 0x91: SUB C (R107). -/
  | subC
  /-- 0x92: SUB D (R107). -/
  | subD
  /-- 0x93: SUB E (R107). -/
  | subE
  /-- 0x94: SUB H (R107). -/
  | subH
  /-- 0x95: SUB L (R107). -/
  | subL
  /-- 0x96: SUB M (R108). -/
  | subM
  /-- 0x97: SUB A (R107). -/
  | subA
  /-- 0x98: SBB B (R109). -/
  | sbbB
  /-- 0x99: SBB C (R109). -/
  | sbbC
  /-- 0x9A: SBB D (R109). -/
  | sbbD
  /-- 0x9B: SBB E (R109). -/
  | sbbE
  /-- 0x9C: SBB H (R109). -/
  | sbbH
  /-- 0x9D: SBB L (R109). -/
  | sbbL
  /-- 0x9E: SBB M (R110). -/
  | sbbM
  /-- 0x9F: SBB A (R109). -/
  | sbbA
  /-- 0xA0: ANA B (R121). -/
  | anaB
  /-- 0xA1: ANA C (R121). -/
  | anaC
  /-- 0xA2: ANA D (R121). -/
  | anaD
  /-- 0xA3: ANA E (R121). -/
  | anaE
  /-- 0xA4: ANA H (R121). -/
  | anaH
  /-- 0xA5: ANA L (R121). -/
  | anaL
  /-- 0xA6: ANA M (R122). -/
  | anaM
  /-- 0xA7: ANA A (R121). -/
  | anaA
  /-- 0xA8: XRA B (R123). -/
  | xraB
  /-- 0xA9: XRA C (R123). -/
  | xraC
  /-- 0xAA: XRA D (R123). -/
  | xraD
  /-- 0xAB: XRA E (R123). -/
  | xraE
  /-- 0xAC: XRA H (R123). -/
  | xraH
  /-- 0xAD: XRA L (R123). -/
  | xraL
  /-- 0xAE: XRA M (R124). -/
  | xraM
  /-- 0xAF: XRA A (R123). -/
  | xraA
  /-- 0xB0: ORA B (R125). -/
  | oraB
  /-- 0xB1: ORA C (R125). -/
  | oraC
  /-- 0xB2: ORA D (R125). -/
  | oraD
  /-- 0xB3: ORA E (R125). -/
  | oraE
  /-- 0xB4: ORA H (R125). -/
  | oraH
  /-- 0xB5: ORA L (R125). -/
  | oraL
  /-- 0xB6: ORA M (R126). -/
  | oraM
  /-- 0xB7: ORA A (R125). -/
  | oraA
  /-- 0xB8: CMP B (R132). -/
  | cmpB
  /-- 0xB9: CMP C (R132). -/
  | cmpC
  /-- 0xBA: CMP D (R132). -/
  | cmpD
  /-- 0xBB: CMP E (R132). -/
  | cmpE
  /-- 0xBC: CMP H (R132). -/
  | cmpH
  /-- 0xBD: CMP L (R132). -/
  | cmpL
  /-- 0xBE: CMP M (R133). -/
  | cmpM
  /-- 0xBF: CMP A (R132). -/
  | cmpA
  /-- 0xC0: RNZ (R187). -/
  | rnz
  /-- 0xC1: POP B (R173). -/
  | popB
  /-- 0xC5: PUSH B (R172). -/
  | pushB
  /-- 0xC7: RST 0 (R224). -/
  | rst0
  /-- 0xC8: RZ (R187). -/
  | rz
  /-- 0xC9: RET (R186). -/
  | ret
  /-- 0xCB: unknown byte 0xCB (R229). -/
  | unknownCB
  /-- 0xCF: RST 1 (R224). -/
  | rst1
  /-- 0xD0: RNC (R187). -/
  | rnc
  /-- 0xD1: POP D (R173). -/
  | popD
  /-- 0xD5: PUSH D (R172). -/
  | pushD
  /-- 0xD7: RST 2 (R224). -/
  | rst2
  /-- 0xD8: RC (R187). -/
  | rc
  /-- 0xD9: unknown byte 0xD9 (R229). -/
  | unknownD9
  /-- 0xDD: unknown byte 0xDD (R229). -/
  | unknownDD
  /-- 0xDF: RST 3 (R224). -/
  | rst3
  /-- 0xE0: RPO (R187). -/
  | rpo
  /-- 0xE1: POP H (R173). -/
  | popH
  /-- 0xE3: XTHL (R211). -/
  | xthl
  /-- 0xE5: PUSH H (R172). -/
  | pushH
  /-- 0xE7: RST 4 (R224). -/
  | rst4
  /-- 0xE8: RPE (R187). -/
  | rpe
  /-- 0xE9: PCHL (R212). -/
  | pchl
  /-- 0xEB: XCHG (R210). -/
  | xchg
  /-- 0xED: unknown byte 0xED (R229). -/
  | unknownED
  /-- 0xEF: RST 5 (R224). -/
  | rst5
  /-- 0xF0: RP (R187). -/
  | rp
  /-- 0xF1: POP PSW (R175). -/
  | popPsw
  /-- 0xF3: DI (R228). -/
  | di
  /-- 0xF5: PUSH PSW (R174). -/
  | pushPsw
  /-- 0xF7: RST 6 (R224). -/
  | rst6
  /-- 0xF8: RM (R187). -/
  | rm
  /-- 0xF9: SPHL (R213). -/
  | sphl
  /-- 0xFB: EI (R227). -/
  | ei
  /-- 0xFD: unknown byte 0xFD (R229). -/
  | unknownFD
  /-- 0xFF: RST 7 (R224). -/
  | rst7
  deriving DecidableEq, Repr

end Sys2Proof
end

