-- ==== Sys2Proof/WellFormed.lean ====
section
/-! DEFINITION. Well-formedness. Every term of `Instr` is well formed: its operands are typed by width, and the
combinations the encoding has no place for (MOV M,M; PUSH SP; LDAX H; RST 8) have no constructor. What CAN be
ill formed is an instruction as it is written in assembler (R73): a mnemonic with operands. `SourceLine.check`
refuses each ill-formed line by a name of its own and answers the parametrized form of a well-formed one.
`Form` is that parametrized form: an instruction as its mnemonic and its decoded fields (R61 to R65). -/

namespace Sys2Proof

/-- An instruction by mnemonic family and decoded operand fields. `Instr` has one constructor per opcode
byte; `Form` has one per instruction rule, with the fields as arguments (R61). -/
inductive Form where
  | nop
  | nopDup (k : Fin 7)
  | movRegReg (dst r : Reg)
  | movRegM (dst : Reg)
  | movMReg (r : Reg)
  | mviReg (dst : Reg) (d8 : Byte)
  | mviM (d8 : Byte)
  | lxi (p : Pair) (d16 : Word)
  | lda (a16 : Word)
  | sta (a16 : Word)
  | lhld (a16 : Word)
  | shld (a16 : Word)
  | ldax (x : IndexPair)
  | stax (x : IndexPair)
  | alu (o : AluOp) (src : Src)
  | inrReg (r : Reg)
  | inrM
  | dcrReg (r : Reg)
  | dcrM
  | inx (p : Pair)
  | dcx (p : Pair)
  | dad (p : Pair)
  | daa | rlc | rrc | ral | rar | cma | stc | cmc
  | jmp (a16 : Word)
  | jcc (cond : Cond) (a16 : Word)
  | call (a16 : Word)
  | ccc (cond : Cond) (a16 : Word)
  | ret
  | rcc (cond : Cond)
  | push (p : StackPair)
  | pop (p : StackPair)
  | pushPsw | popPsw
  | xchg | xthl | pchl | sphl
  | hlt
  | rst (n : Fin 8)
  | inPort (port : Byte)
  | outPort (port : Byte)
  | ei | di
  | unknown (k : Fin 5)
  deriving DecidableEq, Repr

/-- The mnemonics of rule R73. The eight spellings of a conditional family are one constructor with the
condition; the register and the immediate spellings of an accumulator operation are `alu` and `aluImm`
(ADD and ADI, ..., CMP and CPI). -/
inductive Mnemonic where
  | mov | mvi | lxi | lda | sta | lhld | shld | ldax | stax | xchg
  | alu (o : AluOp)
  | aluImm (o : AluOp)
  | inr | dcr | inx | dcx | dad | daa
  | rlc | rrc | ral | rar | cma | cmc | stc
  | jmp | jcc (cond : Cond) | call | ccc (cond : Cond) | ret | rcc (cond : Cond)
  | rst | pchl | push | pop | xthl | sphl | inPort | outPort | ei | di | hlt | nop
  deriving DecidableEq, Repr

/-- An operand as rule R73 spells it: `B` is the register B or the pair BC by the mnemonic it stands with
(R12). -/
inductive AsmOperand where
  | a | b | c | d | e | h | l | m | sp | psw
  | num (n : Nat)
  deriving DecidableEq, Repr

/-- Why a source line is no instruction. Raised by `SourceLine.check` only; safe: the machine never sees a
source line. -/
inductive IllFormed where
  /-- The operands are not of the number or kind the mnemonic takes (R73). -/
  | wrongOperands
  /-- MOV M,M: its encoding is HLT; "there is no memory-to-memory move" (R152). -/
  | memoryToMemory
  /-- SP with PUSH or POP: "SP cannot be pushed or popped" (R63). -/
  | stackPointerPushed
  /-- PSW with LXI, INX, DCX or DAD: "PSW cannot be the operand of LXI, INX, DCX, DAD" (R63). -/
  | pswAsPair
  /-- LDAX or STAX with a pair other than B or D (R158, R159). -/
  | noSuchIndexPair
  /-- A number that its operand field cannot hold: 8 bits for d8 and a port, 16 for d16 and a16 (R65). -/
  | numberTooWide
  /-- RST with a number above 7 (R224). -/
  | noSuchRestart
  deriving DecidableEq, Repr

/-- One line of assembler: `MNEMONIC`, `MNEMONIC op` or `MNEMONIC op1,op2` (R73). -/
structure SourceLine where
  mnemonic : Mnemonic
  operands : List AsmOperand
  deriving DecidableEq, Repr

namespace AsmOperand

/-- The 8-bit operand a spelling names: a register, or the memory byte M (R62). -/
def src : AsmOperand → Option Src
  | .a => some (.reg .a)
  | .b => some (.reg .b)
  | .c => some (.reg .c)
  | .d => some (.reg .d)
  | .e => some (.reg .e)
  | .h => some (.reg .h)
  | .l => some (.reg .l)
  | .m => some .m
  | .sp | .psw | .num _ => none

/-- The operand of LXI, INX, DCX, DAD (R63). -/
def pair : AsmOperand → Except IllFormed Pair
  | .b => .ok .bc
  | .d => .ok .de
  | .h => .ok .hl
  | .sp => .ok .sp
  | .psw => .error .pswAsPair
  | .a | .c | .e | .l | .m | .num _ => .error .wrongOperands

/-- The operand of LDAX and STAX (R158). -/
def index : AsmOperand → Except IllFormed IndexPair
  | .b => .ok .bc
  | .d => .ok .de
  | .h | .sp => .error .noSuchIndexPair
  | .a | .c | .e | .l | .m | .psw | .num _ => .error .wrongOperands

/-- An 8-bit number (R65). -/
def byte : AsmOperand → Except IllFormed Byte
  | .num n => if n < 256 then .ok (BitVec.ofNat 8 n) else .error .numberTooWide
  | .a | .b | .c | .d | .e | .h | .l | .m | .sp | .psw => .error .wrongOperands

/-- A 16-bit number (R65). -/
def word : AsmOperand → Except IllFormed Word
  | .num n => if n < 65536 then .ok (BitVec.ofNat 16 n) else .error .numberTooWide
  | .a | .b | .c | .d | .e | .h | .l | .m | .sp | .psw => .error .wrongOperands

/-- The number of an RST (R224). -/
def restart : AsmOperand → Except IllFormed (Fin 8)
  | .num n => if h : n < 8 then .ok ⟨n, h⟩ else .error .noSuchRestart
  | .a | .b | .c | .d | .e | .h | .l | .m | .sp | .psw => .error .wrongOperands

end AsmOperand

/-- The two forms of a PUSH or POP operand: a pair, or PSW (R63, R172 to R175). -/
def stackForm (ofPair : StackPair → Form) (ofPsw : Form) : AsmOperand → Except IllFormed Form
  | .b => .ok (ofPair .bc)
  | .d => .ok (ofPair .de)
  | .h => .ok (ofPair .hl)
  | .psw => .ok ofPsw
  | .sp => .error .stackPointerPushed
  | .a | .c | .e | .l | .m | .num _ => .error .wrongOperands

/-- The two forms of INR and DCR: a register, or M (R135 to R138). -/
def stepForm (ofReg : Reg → Form) (ofM : Form) (x : AsmOperand) : Except IllFormed Form :=
  match x.src with
  | some (.reg r) => .ok (ofReg r)
  | some .m => .ok ofM
  | some (.imm _) | none => .error .wrongOperands

/-- The forms of MOV (R150 to R152). -/
def moveForm (x y : AsmOperand) : Except IllFormed Form :=
  match x.src, y.src with
  | some (.reg dst), some (.reg r) => .ok (.movRegReg dst r)
  | some (.reg dst), some .m => .ok (.movRegM dst)
  | some .m, some (.reg r) => .ok (.movMReg r)
  | some .m, some .m => .error .memoryToMemory
  | _, _ => .error .wrongOperands

/-- The forms of MVI (R153, R154). -/
def moveImmediateForm (x y : AsmOperand) : Except IllFormed Form :=
  match x.src with
  | some (.reg dst) => y.byte.map (.mviReg dst)
  | some .m => y.byte.map .mviM
  | some (.imm _) | none => .error .wrongOperands

/-- The form of a mnemonic that takes no operand, and none of one that does. -/
def Mnemonic.bareForm : Mnemonic → Option Form
  | .xchg => some .xchg
  | .daa => some .daa
  | .rlc => some .rlc
  | .rrc => some .rrc
  | .ral => some .ral
  | .rar => some .rar
  | .cma => some .cma
  | .cmc => some .cmc
  | .stc => some .stc
  | .ret => some .ret
  | .rcc cond => some (.rcc cond)
  | .pchl => some .pchl
  | .xthl => some .xthl
  | .sphl => some .sphl
  | .ei => some .ei
  | .di => some .di
  | .hlt => some .hlt
  | .nop => some .nop
  | .mov | .mvi | .lxi | .lda | .sta | .lhld | .shld | .ldax | .stax | .alu _ | .aluImm _ | .inr | .dcr
  | .inx | .dcx | .dad | .jmp | .jcc _ | .call | .ccc _ | .rst | .push | .pop | .inPort | .outPort => none

/-- The form of a mnemonic with one operand (R73). -/
def Mnemonic.unaryForm : Mnemonic → AsmOperand → Except IllFormed Form
  | .lda, x => x.word.map .lda
  | .sta, x => x.word.map .sta
  | .lhld, x => x.word.map .lhld
  | .shld, x => x.word.map .shld
  | .ldax, x => x.index.map .ldax
  | .stax, x => x.index.map .stax
  | .alu o, x => match x.src with
    | some s => .ok (.alu o s)
    | none => .error .wrongOperands
  | .aluImm o, x => x.byte.map fun v => .alu o (.imm v)
  | .inr, x => stepForm .inrReg .inrM x
  | .dcr, x => stepForm .dcrReg .dcrM x
  | .inx, x => x.pair.map .inx
  | .dcx, x => x.pair.map .dcx
  | .dad, x => x.pair.map .dad
  | .jmp, x => x.word.map .jmp
  | .jcc cond, x => x.word.map (.jcc cond)
  | .call, x => x.word.map .call
  | .ccc cond, x => x.word.map (.ccc cond)
  | .rst, x => x.restart.map .rst
  | .push, x => stackForm .push .pushPsw x
  | .pop, x => stackForm .pop .popPsw x
  | .inPort, x => x.byte.map .inPort
  | .outPort, x => x.byte.map .outPort
  | .mov, _ | .mvi, _ | .lxi, _ | .xchg, _ | .daa, _ | .rlc, _ | .rrc, _ | .ral, _ | .rar, _ | .cma, _
  | .cmc, _ | .stc, _ | .ret, _ | .rcc _, _ | .pchl, _ | .xthl, _ | .sphl, _ | .ei, _ | .di, _ | .hlt, _
  | .nop, _ => .error .wrongOperands

/-- The check: the form of a well-formed source line, or the reason it is none (R63, R65, R73, R74). -/
def SourceLine.check (line : SourceLine) : Except IllFormed Form :=
  match line.operands with
  | [] => match line.mnemonic.bareForm with
    | some f => .ok f
    | none => .error .wrongOperands
  | [x] => line.mnemonic.unaryForm x
  | [x, y] => match line.mnemonic with
    | .mov => moveForm x y
    | .mvi => moveImmediateForm x y
    | .lxi => x.pair.bind fun p => y.word.map (.lxi p)
    | _ => .error .wrongOperands
  | _ :: _ :: _ :: _ => .error .wrongOperands

/-- A source line is well formed when the check answers a form. -/
def SourceLine.wellFormed (line : SourceLine) : Bool :=
  match line.check with
  | .ok _ => true
  | .error _ => false

/-- The spelling of a register (R12, R73). -/
def Reg.spelling : Reg → AsmOperand
  | .b => .b
  | .c => .c
  | .d => .d
  | .e => .e
  | .h => .h
  | .l => .l
  | .a => .a

/-- The spelling of a pair: `B`, `D`, `H`, `SP` (R12, R73). -/
def Pair.spelling : Pair → AsmOperand
  | .bc => .b
  | .de => .d
  | .hl => .h
  | .sp => .sp

/-- The spelling of a PUSH or POP pair. -/
def StackPair.spelling : StackPair → AsmOperand
  | .bc => .b
  | .de => .d
  | .hl => .h

/-- The spelling of an LDAX or STAX pair. -/
def IndexPair.spelling : IndexPair → AsmOperand
  | .bc => .b
  | .de => .d

/-- A form written in assembler; the NOP duplicates and the unknown bytes "have no mnemonic" (R74). -/
def Form.source : Form → Option SourceLine
  | .nop => some ⟨.nop, []⟩
  | .nopDup _ => none
  | .movRegReg dst r => some ⟨.mov, [dst.spelling, r.spelling]⟩
  | .movRegM dst => some ⟨.mov, [dst.spelling, .m]⟩
  | .movMReg r => some ⟨.mov, [.m, r.spelling]⟩
  | .mviReg dst v => some ⟨.mvi, [dst.spelling, .num v.toNat]⟩
  | .mviM v => some ⟨.mvi, [.m, .num v.toNat]⟩
  | .lxi p v => some ⟨.lxi, [p.spelling, .num v.toNat]⟩
  | .lda a => some ⟨.lda, [.num a.toNat]⟩
  | .sta a => some ⟨.sta, [.num a.toNat]⟩
  | .lhld a => some ⟨.lhld, [.num a.toNat]⟩
  | .shld a => some ⟨.shld, [.num a.toNat]⟩
  | .ldax x => some ⟨.ldax, [x.spelling]⟩
  | .stax x => some ⟨.stax, [x.spelling]⟩
  | .alu o (.reg r) => some ⟨.alu o, [r.spelling]⟩
  | .alu o .m => some ⟨.alu o, [.m]⟩
  | .alu o (.imm v) => some ⟨.aluImm o, [.num v.toNat]⟩
  | .inrReg r => some ⟨.inr, [r.spelling]⟩
  | .inrM => some ⟨.inr, [.m]⟩
  | .dcrReg r => some ⟨.dcr, [r.spelling]⟩
  | .dcrM => some ⟨.dcr, [.m]⟩
  | .inx p => some ⟨.inx, [p.spelling]⟩
  | .dcx p => some ⟨.dcx, [p.spelling]⟩
  | .dad p => some ⟨.dad, [p.spelling]⟩
  | .daa => some ⟨.daa, []⟩
  | .rlc => some ⟨.rlc, []⟩
  | .rrc => some ⟨.rrc, []⟩
  | .ral => some ⟨.ral, []⟩
  | .rar => some ⟨.rar, []⟩
  | .cma => some ⟨.cma, []⟩
  | .stc => some ⟨.stc, []⟩
  | .cmc => some ⟨.cmc, []⟩
  | .jmp a => some ⟨.jmp, [.num a.toNat]⟩
  | .jcc cond a => some ⟨.jcc cond, [.num a.toNat]⟩
  | .call a => some ⟨.call, [.num a.toNat]⟩
  | .ccc cond a => some ⟨.ccc cond, [.num a.toNat]⟩
  | .ret => some ⟨.ret, []⟩
  | .rcc cond => some ⟨.rcc cond, []⟩
  | .push p => some ⟨.push, [p.spelling]⟩
  | .pop p => some ⟨.pop, [p.spelling]⟩
  | .pushPsw => some ⟨.push, [.psw]⟩
  | .popPsw => some ⟨.pop, [.psw]⟩
  | .xchg => some ⟨.xchg, []⟩
  | .xthl => some ⟨.xthl, []⟩
  | .pchl => some ⟨.pchl, []⟩
  | .sphl => some ⟨.sphl, []⟩
  | .hlt => some ⟨.hlt, []⟩
  | .rst n => some ⟨.rst, [.num n.val]⟩
  | .inPort v => some ⟨.inPort, [.num v.toNat]⟩
  | .outPort v => some ⟨.outPort, [.num v.toNat]⟩
  | .ei => some ⟨.ei, []⟩
  | .di => some ⟨.di, []⟩
  | .unknown _ => none

end Sys2Proof
end

