-- ==== Sys2Proof/Decode.lean ====
section
/-! DEFINITION. Decoding and encoding. The decoder follows the FIELDS of rules R61 to R65 and the quadrants and
columns of R66 to R69, and is total on all 256 first bytes; only a byte string that ends too early is refused,
by name. The encoder, written apart from it, gives each instruction the byte of its row in
spec/opcode_table.json, then its operand bytes, low byte first. Byte-order and bit-field helpers are here too.
The numbers of the opcode map and the byte order are the spec's decisions D5 and D2 (log entry 5). -/

namespace Sys2Proof

/-! ### Bit fields and byte order -/

/-- The word with high byte `hi` and low byte `lo` (R5). -/
def joinBytes (hi lo : Byte) : Word := hi ++ lo

/-- Bits 15..8 of a word. -/
def hiByte (w : Word) : Byte := w.extractLsb' 8 8

/-- Bits 7..0 of a word. -/
def loByte (w : Word) : Byte := w.extractLsb' 0 8

/-- `op[7:6]`, the quadrant (R61). -/
def quadrant (op : Byte) : Fin 4 := Fin.ofNat 4 (op.toNat / 64)

/-- `op[5:3]`: ddd, ooo, ccc or nnn by format (R61). -/
def midField (op : Byte) : Fin 8 := Fin.ofNat 8 (op.toNat / 8)

/-- `op[2:0]`: sss, or the column of the opcode map (R61). -/
def lowField (op : Byte) : Fin 8 := Fin.ofNat 8 op.toNat

/-- `op[5:4]`, pp (R63). -/
def pairField (op : Byte) : Fin 4 := Fin.ofNat 4 (op.toNat / 16)

/-! ### Field codes -/

/-- A register field: codes 0..5 and 7 are registers, 6 is M (R62). -/
def regOfCode : Fin 8 → Option Reg
  | 0 => some .b
  | 1 => some .c
  | 2 => some .d
  | 3 => some .e
  | 4 => some .h
  | 5 => some .l
  | 6 => none
  | 7 => some .a

/-- A pair field of LXI, INX, DCX, DAD (R63). -/
def pairOfCode : Fin 4 → Pair
  | 0 => .bc
  | 1 => .de
  | 2 => .hl
  | 3 => .sp

/-- The pair a PUSH or POP operand names (R63). -/
def StackPair.toPair : StackPair → Pair
  | .bc => .bc
  | .de => .de
  | .hl => .hl

/-- A pair field of PUSH and POP: code 3 is PSW (R63). -/
def stackPairOfCode : Fin 4 → Option StackPair
  | 0 => some .bc
  | 1 => some .de
  | 2 => some .hl
  | 3 => none

/-- A condition field (R64). -/
def condOfCode : Fin 8 → Cond
  | 0 => .nz
  | 1 => .z
  | 2 => .nc
  | 3 => .c
  | 4 => .po
  | 5 => .pe
  | 6 => .p
  | 7 => .m

/-- An operation field (R68). -/
def aluOfCode : Fin 8 → AluOp
  | 0 => .add
  | 1 => .adc
  | 2 => .sub
  | 3 => .sbb
  | 4 => .ana
  | 5 => .xra
  | 6 => .ora
  | 7 => .cmp

/-- The source operand of the accumulator operations in quadrant 10: a register, or M at code 6 (R62, R68). -/
def srcOfCode (sss : Fin 8) : Src :=
  match regOfCode sss with
  | some r => .reg r
  | none => .m

/-! ### The opcode map by quadrant and column -/

/-- Column 0 of quadrant 00: NOP and its duplicates (R66). -/
def formOfNopColumn : Fin 8 → Form
  | 0 => .nop
  | 1 => .nopDup 0
  | 2 => .nopDup 1
  | 3 => .nopDup 2
  | 4 => .nopDup 3
  | 5 => .nopDup 4
  | 6 => .nopDup 5
  | 7 => .nopDup 6

/-- Column 2 of quadrant 00: the indirect and direct transfers (R66). -/
def formOfTransferColumn (a16 : Word) : Fin 8 → Form
  | 0 => .stax .bc
  | 1 => .ldax .bc
  | 2 => .stax .de
  | 3 => .ldax .de
  | 4 => .shld a16
  | 5 => .lhld a16
  | 6 => .sta a16
  | 7 => .lda a16

/-- Column 7 of quadrant 00: rotates, DAA and the carry instructions (R66). -/
def formOfRotateColumn : Fin 8 → Form
  | 0 => .rlc
  | 1 => .rrc
  | 2 => .ral
  | 3 => .rar
  | 4 => .daa
  | 5 => .cma
  | 6 => .stc
  | 7 => .cmc

/-- Quadrant 00 (R66). -/
def formOfQuadrant0 (op b2 b3 : Byte) : Form :=
  let d16 := joinBytes b3 b2
  let odd := op.getLsbD 3
  let pair := pairOfCode (pairField op)
  match lowField op with
  | 0 => formOfNopColumn (midField op)
  | 1 => if odd then .dad pair else .lxi pair d16
  | 2 => formOfTransferColumn d16 (midField op)
  | 3 => if odd then .dcx pair else .inx pair
  | 4 => match regOfCode (midField op) with
    | some r => .inrReg r
    | none => .inrM
  | 5 => match regOfCode (midField op) with
    | some r => .dcrReg r
    | none => .dcrM
  | 6 => match regOfCode (midField op) with
    | some r => .mviReg r b2
    | none => .mviM b2
  | 7 => formOfRotateColumn (midField op)

/-- Quadrant 01: MOV, and HLT at `ddd = sss = 6` (R67). -/
def formOfQuadrant1 (op : Byte) : Form :=
  match regOfCode (midField op), regOfCode (lowField op) with
  | some dst, some r => .movRegReg dst r
  | some dst, none => .movRegM dst
  | none, some r => .movMReg r
  | none, none => .hlt

/-- Column 1 of quadrant 11: POP, RET, an unknown byte, PCHL, SPHL (R69). -/
def formOfPopColumn (op : Byte) : Form :=
  match midField op with
  | 1 => .ret
  | 3 => .unknown 1
  | 5 => .pchl
  | 7 => .sphl
  | _ => match stackPairOfCode (pairField op) with
    | some p => .pop p
    | none => .popPsw

/-- Column 3 of quadrant 11 (R69). -/
def formOfMixedColumn (b2 : Byte) (a16 : Word) : Fin 8 → Form
  | 0 => .jmp a16
  | 1 => .unknown 0
  | 2 => .outPort b2
  | 3 => .inPort b2
  | 4 => .xthl
  | 5 => .xchg
  | 6 => .di
  | 7 => .ei

/-- Column 5 of quadrant 11: PUSH, CALL, unknown bytes (R69). -/
def formOfPushColumn (op : Byte) (a16 : Word) : Form :=
  match midField op with
  | 1 => .call a16
  | 3 => .unknown 2
  | 5 => .unknown 3
  | 7 => .unknown 4
  | _ => match stackPairOfCode (pairField op) with
    | some p => .push p
    | none => .pushPsw

/-- Quadrant 11 (R69). -/
def formOfQuadrant3 (op b2 b3 : Byte) : Form :=
  let a16 := joinBytes b3 b2
  match lowField op with
  | 0 => .rcc (condOfCode (midField op))
  | 1 => formOfPopColumn op
  | 2 => .jcc (condOfCode (midField op)) a16
  | 3 => formOfMixedColumn b2 a16 (midField op)
  | 4 => .ccc (condOfCode (midField op)) a16
  | 5 => formOfPushColumn op a16
  | 6 => .alu (aluOfCode (midField op)) (.imm b2)
  | 7 => .rst (midField op)

/-- The form of first byte `op` with operand bytes `b2` and `b3`; bytes the instruction does not have are
not looked at (R60, R65, R72). -/
def formOf (op b2 b3 : Byte) : Form :=
  match quadrant op with
  | 0 => formOfQuadrant0 op b2 b3
  | 1 => formOfQuadrant1 op
  | 2 => .alu (aluOfCode (midField op)) (srcOfCode (lowField op))
  | 3 => formOfQuadrant3 op b2 b3

/-! ### From a form to the row of the table, and back -/

/-- The rows of MOV r1,r2 (R150). -/
def movInstr : Reg → Reg → Instr
  | .b, .b => .movBB
  | .b, .c => .movBC
  | .b, .d => .movBD
  | .b, .e => .movBE
  | .b, .h => .movBH
  | .b, .l => .movBL
  | .b, .a => .movBA
  | .c, .b => .movCB
  | .c, .c => .movCC
  | .c, .d => .movCD
  | .c, .e => .movCE
  | .c, .h => .movCH
  | .c, .l => .movCL
  | .c, .a => .movCA
  | .d, .b => .movDB
  | .d, .c => .movDC
  | .d, .d => .movDD
  | .d, .e => .movDE
  | .d, .h => .movDH
  | .d, .l => .movDL
  | .d, .a => .movDA
  | .e, .b => .movEB
  | .e, .c => .movEC
  | .e, .d => .movED
  | .e, .e => .movEE
  | .e, .h => .movEH
  | .e, .l => .movEL
  | .e, .a => .movEA
  | .h, .b => .movHB
  | .h, .c => .movHC
  | .h, .d => .movHD
  | .h, .e => .movHE
  | .h, .h => .movHH
  | .h, .l => .movHL
  | .h, .a => .movHA
  | .l, .b => .movLB
  | .l, .c => .movLC
  | .l, .d => .movLD
  | .l, .e => .movLE
  | .l, .h => .movLH
  | .l, .l => .movLL
  | .l, .a => .movLA
  | .a, .b => .movAB
  | .a, .c => .movAC
  | .a, .d => .movAD
  | .a, .e => .movAE
  | .a, .h => .movAH
  | .a, .l => .movAL
  | .a, .a => .movAA

/-- The rows of MOV r,M (R151). -/
def movFromMInstr : Reg → Instr
  | .b => .movBM
  | .c => .movCM
  | .d => .movDM
  | .e => .movEM
  | .h => .movHM
  | .l => .movLM
  | .a => .movAM

/-- The rows of MOV M,r (R152). -/
def movToMInstr : Reg → Instr
  | .b => .movMB
  | .c => .movMC
  | .d => .movMD
  | .e => .movME
  | .h => .movMH
  | .l => .movML
  | .a => .movMA

/-- The rows of MVI r,d8 (R153). -/
def mviInstr : Reg → Byte → Instr
  | .b, v => .mviB v
  | .c, v => .mviC v
  | .d, v => .mviD v
  | .e, v => .mviE v
  | .h, v => .mviH v
  | .l, v => .mviL v
  | .a, v => .mviA v

/-- The rows of LXI (R155). -/
def lxiInstr : Pair → Word → Instr
  | .bc, v => .lxiB v
  | .de, v => .lxiD v
  | .hl, v => .lxiH v
  | .sp, v => .lxiSp v

/-- The rows of INX (R139). -/
def inxInstr : Pair → Instr
  | .bc => .inxB
  | .de => .inxD
  | .hl => .inxH
  | .sp => .inxSp

/-- The rows of DCX (R140). -/
def dcxInstr : Pair → Instr
  | .bc => .dcxB
  | .de => .dcxD
  | .hl => .dcxH
  | .sp => .dcxSp

/-- The rows of DAD (R141). -/
def dadInstr : Pair → Instr
  | .bc => .dadB
  | .de => .dadD
  | .hl => .dadH
  | .sp => .dadSp

/-- The rows of LDAX (R158). -/
def ldaxInstr : IndexPair → Instr
  | .bc => .ldaxB
  | .de => .ldaxD

/-- The rows of STAX (R159). -/
def staxInstr : IndexPair → Instr
  | .bc => .staxB
  | .de => .staxD

/-- The rows of PUSH rp (R172). -/
def pushInstr : StackPair → Instr
  | .bc => .pushB
  | .de => .pushD
  | .hl => .pushH

/-- The rows of POP rp (R173). -/
def popInstr : StackPair → Instr
  | .bc => .popB
  | .de => .popD
  | .hl => .popH

/-- The rows of INR r (R135). -/
def inrInstr : Reg → Instr
  | .b => .inrB
  | .c => .inrC
  | .d => .inrD
  | .e => .inrE
  | .h => .inrH
  | .l => .inrL
  | .a => .inrA

/-- The rows of DCR r (R137). -/
def dcrInstr : Reg → Instr
  | .b => .dcrB
  | .c => .dcrC
  | .d => .dcrD
  | .e => .dcrE
  | .h => .dcrH
  | .l => .dcrL
  | .a => .dcrA

/-- The rows of quadrant 10 with a register operand (R68). -/
def aluRegInstr : AluOp → Reg → Instr
  | .add, .b => .addB
  | .add, .c => .addC
  | .add, .d => .addD
  | .add, .e => .addE
  | .add, .h => .addH
  | .add, .l => .addL
  | .add, .a => .addA
  | .adc, .b => .adcB
  | .adc, .c => .adcC
  | .adc, .d => .adcD
  | .adc, .e => .adcE
  | .adc, .h => .adcH
  | .adc, .l => .adcL
  | .adc, .a => .adcA
  | .sub, .b => .subB
  | .sub, .c => .subC
  | .sub, .d => .subD
  | .sub, .e => .subE
  | .sub, .h => .subH
  | .sub, .l => .subL
  | .sub, .a => .subA
  | .sbb, .b => .sbbB
  | .sbb, .c => .sbbC
  | .sbb, .d => .sbbD
  | .sbb, .e => .sbbE
  | .sbb, .h => .sbbH
  | .sbb, .l => .sbbL
  | .sbb, .a => .sbbA
  | .ana, .b => .anaB
  | .ana, .c => .anaC
  | .ana, .d => .anaD
  | .ana, .e => .anaE
  | .ana, .h => .anaH
  | .ana, .l => .anaL
  | .ana, .a => .anaA
  | .xra, .b => .xraB
  | .xra, .c => .xraC
  | .xra, .d => .xraD
  | .xra, .e => .xraE
  | .xra, .h => .xraH
  | .xra, .l => .xraL
  | .xra, .a => .xraA
  | .ora, .b => .oraB
  | .ora, .c => .oraC
  | .ora, .d => .oraD
  | .ora, .e => .oraE
  | .ora, .h => .oraH
  | .ora, .l => .oraL
  | .ora, .a => .oraA
  | .cmp, .b => .cmpB
  | .cmp, .c => .cmpC
  | .cmp, .d => .cmpD
  | .cmp, .e => .cmpE
  | .cmp, .h => .cmpH
  | .cmp, .l => .cmpL
  | .cmp, .a => .cmpA

/-- The rows of quadrant 10 with operand M (R68). -/
def aluMInstr : AluOp → Instr
  | .add => .addM
  | .adc => .adcM
  | .sub => .subM
  | .sbb => .sbbM
  | .ana => .anaM
  | .xra => .xraM
  | .ora => .oraM
  | .cmp => .cmpM

/-- The immediate rows, column 6 of quadrant 11 (R69). -/
def aluImmInstr : AluOp → Byte → Instr
  | .add, v => .adi v
  | .adc, v => .aci v
  | .sub, v => .sui v
  | .sbb, v => .sbi v
  | .ana, v => .ani v
  | .xra, v => .xri v
  | .ora, v => .ori v
  | .cmp, v => .cpi v

/-- The rows of Jcc (R183). -/
def jccInstr : Cond → Word → Instr
  | .nz, a => .jnz a
  | .z, a => .jz a
  | .nc, a => .jnc a
  | .c, a => .jc a
  | .po, a => .jpo a
  | .pe, a => .jpe a
  | .p, a => .jp a
  | .m, a => .jm a

/-- The rows of Ccc (R185). -/
def cccInstr : Cond → Word → Instr
  | .nz, a => .cnz a
  | .z, a => .cz a
  | .nc, a => .cnc a
  | .c, a => .cc a
  | .po, a => .cpo a
  | .pe, a => .cpe a
  | .p, a => .cp a
  | .m, a => .cm a

/-- The rows of Rcc (R187). -/
def rccInstr : Cond → Instr
  | .nz => .rnz
  | .z => .rz
  | .nc => .rnc
  | .c => .rc
  | .po => .rpo
  | .pe => .rpe
  | .p => .rp
  | .m => .rm

/-- The rows of RST n (R224). -/
def rstInstr : Fin 8 → Instr
  | 0 => .rst0
  | 1 => .rst1
  | 2 => .rst2
  | 3 => .rst3
  | 4 => .rst4
  | 5 => .rst5
  | 6 => .rst6
  | 7 => .rst7

/-- The rows of the NOP duplicates (R222). -/
def nopDupInstr : Fin 7 → Instr
  | 0 => .nopDup08
  | 1 => .nopDup10
  | 2 => .nopDup18
  | 3 => .nopDup20
  | 4 => .nopDup28
  | 5 => .nopDup30
  | 6 => .nopDup38

/-- The rows of the unknown bytes (R229). -/
def unknownInstr : Fin 5 → Instr
  | 0 => .unknownCB
  | 1 => .unknownD9
  | 2 => .unknownDD
  | 3 => .unknownED
  | 4 => .unknownFD

/-- The row of the opcode table that a form names. -/
def Instr.ofForm : Form → Instr
  | .nopDup k => nopDupInstr k
  | .movRegReg dst r => movInstr dst r
  | .movRegM dst => movFromMInstr dst
  | .movMReg r => movToMInstr r
  | .mviReg dst v => mviInstr dst v
  | .mviM v => .mviM v
  | .lxi p v => lxiInstr p v
  | .ldax x => ldaxInstr x
  | .stax x => staxInstr x
  | .alu o (.reg r) => aluRegInstr o r
  | .alu o .m => aluMInstr o
  | .alu o (.imm v) => aluImmInstr o v
  | .inrReg r => inrInstr r
  | .inrM => .inrM
  | .dcrReg r => dcrInstr r
  | .dcrM => .dcrM
  | .inx p => inxInstr p
  | .dcx p => dcxInstr p
  | .dad p => dadInstr p
  | .jcc cond a => jccInstr cond a
  | .ccc cond a => cccInstr cond a
  | .rcc cond => rccInstr cond
  | .push p => pushInstr p
  | .pop p => popInstr p
  | .rst n => rstInstr n
  | .inPort v => .inPort v
  | .outPort v => .outPort v
  | .unknown k => unknownInstr k
  | .lda a => .lda a
  | .sta a => .sta a
  | .lhld a => .lhld a
  | .shld a => .shld a
  | .jmp a => .jmp a
  | .call a => .call a
  | .nop => .nop
  | .daa => .daa
  | .rlc => .rlc
  | .rrc => .rrc
  | .ral => .ral
  | .rar => .rar
  | .cma => .cma
  | .stc => .stc
  | .cmc => .cmc
  | .ret => .ret
  | .pushPsw => .pushPsw
  | .popPsw => .popPsw
  | .xchg => .xchg
  | .xthl => .xthl
  | .pchl => .pchl
  | .sphl => .sphl
  | .hlt => .hlt
  | .ei => .ei
  | .di => .di

/-- The form of each row of the table: its mnemonic and field values (the rows' `fields` of R62 to R64). -/
def Instr.form : Instr → Form
  | .lxiB d16 => .lxi .bc d16
  | .mviB d8 => .mviReg .b d8
  | .mviC d8 => .mviReg .c d8
  | .lxiD d16 => .lxi .de d16
  | .mviD d8 => .mviReg .d d8
  | .mviE d8 => .mviReg .e d8
  | .lxiH d16 => .lxi .hl d16
  | .shld a16 => .shld a16
  | .mviH d8 => .mviReg .h d8
  | .lhld a16 => .lhld a16
  | .mviL d8 => .mviReg .l d8
  | .lxiSp d16 => .lxi .sp d16
  | .sta a16 => .sta a16
  | .mviM d8 => .mviM d8
  | .lda a16 => .lda a16
  | .mviA d8 => .mviReg .a d8
  | .jnz a16 => .jcc .nz a16
  | .jmp a16 => .jmp a16
  | .cnz a16 => .ccc .nz a16
  | .adi d8 => .alu .add (.imm d8)
  | .jz a16 => .jcc .z a16
  | .cz a16 => .ccc .z a16
  | .call a16 => .call a16
  | .aci d8 => .alu .adc (.imm d8)
  | .jnc a16 => .jcc .nc a16
  | .outPort port => .outPort port
  | .cnc a16 => .ccc .nc a16
  | .sui d8 => .alu .sub (.imm d8)
  | .jc a16 => .jcc .c a16
  | .inPort port => .inPort port
  | .cc a16 => .ccc .c a16
  | .sbi d8 => .alu .sbb (.imm d8)
  | .jpo a16 => .jcc .po a16
  | .cpo a16 => .ccc .po a16
  | .ani d8 => .alu .ana (.imm d8)
  | .jpe a16 => .jcc .pe a16
  | .cpe a16 => .ccc .pe a16
  | .xri d8 => .alu .xra (.imm d8)
  | .jp a16 => .jcc .p a16
  | .cp a16 => .ccc .p a16
  | .ori d8 => .alu .ora (.imm d8)
  | .jm a16 => .jcc .m a16
  | .cm a16 => .ccc .m a16
  | .cpi d8 => .alu .cmp (.imm d8)
  | .nop => .nop
  | .staxB => .stax .bc
  | .inxB => .inx .bc
  | .inrB => .inrReg .b
  | .dcrB => .dcrReg .b
  | .rlc => .rlc
  | .nopDup08 => .nopDup 0
  | .dadB => .dad .bc
  | .ldaxB => .ldax .bc
  | .dcxB => .dcx .bc
  | .inrC => .inrReg .c
  | .dcrC => .dcrReg .c
  | .rrc => .rrc
  | .nopDup10 => .nopDup 1
  | .staxD => .stax .de
  | .inxD => .inx .de
  | .inrD => .inrReg .d
  | .dcrD => .dcrReg .d
  | .ral => .ral
  | .nopDup18 => .nopDup 2
  | .dadD => .dad .de
  | .ldaxD => .ldax .de
  | .dcxD => .dcx .de
  | .inrE => .inrReg .e
  | .dcrE => .dcrReg .e
  | .rar => .rar
  | .nopDup20 => .nopDup 3
  | .inxH => .inx .hl
  | .inrH => .inrReg .h
  | .dcrH => .dcrReg .h
  | .daa => .daa
  | .nopDup28 => .nopDup 4
  | .dadH => .dad .hl
  | .dcxH => .dcx .hl
  | .inrL => .inrReg .l
  | .dcrL => .dcrReg .l
  | .cma => .cma
  | .nopDup30 => .nopDup 5
  | .inxSp => .inx .sp
  | .inrM => .inrM
  | .dcrM => .dcrM
  | .stc => .stc
  | .nopDup38 => .nopDup 6
  | .dadSp => .dad .sp
  | .dcxSp => .dcx .sp
  | .inrA => .inrReg .a
  | .dcrA => .dcrReg .a
  | .cmc => .cmc
  | .movBB => .movRegReg .b .b
  | .movBC => .movRegReg .b .c
  | .movBD => .movRegReg .b .d
  | .movBE => .movRegReg .b .e
  | .movBH => .movRegReg .b .h
  | .movBL => .movRegReg .b .l
  | .movBM => .movRegM .b
  | .movBA => .movRegReg .b .a
  | .movCB => .movRegReg .c .b
  | .movCC => .movRegReg .c .c
  | .movCD => .movRegReg .c .d
  | .movCE => .movRegReg .c .e
  | .movCH => .movRegReg .c .h
  | .movCL => .movRegReg .c .l
  | .movCM => .movRegM .c
  | .movCA => .movRegReg .c .a
  | .movDB => .movRegReg .d .b
  | .movDC => .movRegReg .d .c
  | .movDD => .movRegReg .d .d
  | .movDE => .movRegReg .d .e
  | .movDH => .movRegReg .d .h
  | .movDL => .movRegReg .d .l
  | .movDM => .movRegM .d
  | .movDA => .movRegReg .d .a
  | .movEB => .movRegReg .e .b
  | .movEC => .movRegReg .e .c
  | .movED => .movRegReg .e .d
  | .movEE => .movRegReg .e .e
  | .movEH => .movRegReg .e .h
  | .movEL => .movRegReg .e .l
  | .movEM => .movRegM .e
  | .movEA => .movRegReg .e .a
  | .movHB => .movRegReg .h .b
  | .movHC => .movRegReg .h .c
  | .movHD => .movRegReg .h .d
  | .movHE => .movRegReg .h .e
  | .movHH => .movRegReg .h .h
  | .movHL => .movRegReg .h .l
  | .movHM => .movRegM .h
  | .movHA => .movRegReg .h .a
  | .movLB => .movRegReg .l .b
  | .movLC => .movRegReg .l .c
  | .movLD => .movRegReg .l .d
  | .movLE => .movRegReg .l .e
  | .movLH => .movRegReg .l .h
  | .movLL => .movRegReg .l .l
  | .movLM => .movRegM .l
  | .movLA => .movRegReg .l .a
  | .movMB => .movMReg .b
  | .movMC => .movMReg .c
  | .movMD => .movMReg .d
  | .movME => .movMReg .e
  | .movMH => .movMReg .h
  | .movML => .movMReg .l
  | .hlt => .hlt
  | .movMA => .movMReg .a
  | .movAB => .movRegReg .a .b
  | .movAC => .movRegReg .a .c
  | .movAD => .movRegReg .a .d
  | .movAE => .movRegReg .a .e
  | .movAH => .movRegReg .a .h
  | .movAL => .movRegReg .a .l
  | .movAM => .movRegM .a
  | .movAA => .movRegReg .a .a
  | .addB => .alu .add (.reg .b)
  | .addC => .alu .add (.reg .c)
  | .addD => .alu .add (.reg .d)
  | .addE => .alu .add (.reg .e)
  | .addH => .alu .add (.reg .h)
  | .addL => .alu .add (.reg .l)
  | .addM => .alu .add .m
  | .addA => .alu .add (.reg .a)
  | .adcB => .alu .adc (.reg .b)
  | .adcC => .alu .adc (.reg .c)
  | .adcD => .alu .adc (.reg .d)
  | .adcE => .alu .adc (.reg .e)
  | .adcH => .alu .adc (.reg .h)
  | .adcL => .alu .adc (.reg .l)
  | .adcM => .alu .adc .m
  | .adcA => .alu .adc (.reg .a)
  | .subB => .alu .sub (.reg .b)
  | .subC => .alu .sub (.reg .c)
  | .subD => .alu .sub (.reg .d)
  | .subE => .alu .sub (.reg .e)
  | .subH => .alu .sub (.reg .h)
  | .subL => .alu .sub (.reg .l)
  | .subM => .alu .sub .m
  | .subA => .alu .sub (.reg .a)
  | .sbbB => .alu .sbb (.reg .b)
  | .sbbC => .alu .sbb (.reg .c)
  | .sbbD => .alu .sbb (.reg .d)
  | .sbbE => .alu .sbb (.reg .e)
  | .sbbH => .alu .sbb (.reg .h)
  | .sbbL => .alu .sbb (.reg .l)
  | .sbbM => .alu .sbb .m
  | .sbbA => .alu .sbb (.reg .a)
  | .anaB => .alu .ana (.reg .b)
  | .anaC => .alu .ana (.reg .c)
  | .anaD => .alu .ana (.reg .d)
  | .anaE => .alu .ana (.reg .e)
  | .anaH => .alu .ana (.reg .h)
  | .anaL => .alu .ana (.reg .l)
  | .anaM => .alu .ana .m
  | .anaA => .alu .ana (.reg .a)
  | .xraB => .alu .xra (.reg .b)
  | .xraC => .alu .xra (.reg .c)
  | .xraD => .alu .xra (.reg .d)
  | .xraE => .alu .xra (.reg .e)
  | .xraH => .alu .xra (.reg .h)
  | .xraL => .alu .xra (.reg .l)
  | .xraM => .alu .xra .m
  | .xraA => .alu .xra (.reg .a)
  | .oraB => .alu .ora (.reg .b)
  | .oraC => .alu .ora (.reg .c)
  | .oraD => .alu .ora (.reg .d)
  | .oraE => .alu .ora (.reg .e)
  | .oraH => .alu .ora (.reg .h)
  | .oraL => .alu .ora (.reg .l)
  | .oraM => .alu .ora .m
  | .oraA => .alu .ora (.reg .a)
  | .cmpB => .alu .cmp (.reg .b)
  | .cmpC => .alu .cmp (.reg .c)
  | .cmpD => .alu .cmp (.reg .d)
  | .cmpE => .alu .cmp (.reg .e)
  | .cmpH => .alu .cmp (.reg .h)
  | .cmpL => .alu .cmp (.reg .l)
  | .cmpM => .alu .cmp .m
  | .cmpA => .alu .cmp (.reg .a)
  | .rnz => .rcc .nz
  | .popB => .pop .bc
  | .pushB => .push .bc
  | .rst0 => .rst 0
  | .rz => .rcc .z
  | .ret => .ret
  | .unknownCB => .unknown 0
  | .rst1 => .rst 1
  | .rnc => .rcc .nc
  | .popD => .pop .de
  | .pushD => .push .de
  | .rst2 => .rst 2
  | .rc => .rcc .c
  | .unknownD9 => .unknown 1
  | .unknownDD => .unknown 2
  | .rst3 => .rst 3
  | .rpo => .rcc .po
  | .popH => .pop .hl
  | .xthl => .xthl
  | .pushH => .push .hl
  | .rst4 => .rst 4
  | .rpe => .rcc .pe
  | .pchl => .pchl
  | .xchg => .xchg
  | .unknownED => .unknown 3
  | .rst5 => .rst 5
  | .rp => .rcc .p
  | .popPsw => .popPsw
  | .di => .di
  | .pushPsw => .pushPsw
  | .rst6 => .rst 6
  | .rm => .rcc .m
  | .sphl => .sphl
  | .ei => .ei
  | .unknownFD => .unknown 4
  | .rst7 => .rst 7

/-! ### The encoder -/

/-- The first byte of each row of the table (its `match`, R66 to R69). -/
def opcode : Instr → Byte
  | .lxiB _ => 0x01#8
  | .mviB _ => 0x06#8
  | .mviC _ => 0x0E#8
  | .lxiD _ => 0x11#8
  | .mviD _ => 0x16#8
  | .mviE _ => 0x1E#8
  | .lxiH _ => 0x21#8
  | .shld _ => 0x22#8
  | .mviH _ => 0x26#8
  | .lhld _ => 0x2A#8
  | .mviL _ => 0x2E#8
  | .lxiSp _ => 0x31#8
  | .sta _ => 0x32#8
  | .mviM _ => 0x36#8
  | .lda _ => 0x3A#8
  | .mviA _ => 0x3E#8
  | .jnz _ => 0xC2#8
  | .jmp _ => 0xC3#8
  | .cnz _ => 0xC4#8
  | .adi _ => 0xC6#8
  | .jz _ => 0xCA#8
  | .cz _ => 0xCC#8
  | .call _ => 0xCD#8
  | .aci _ => 0xCE#8
  | .jnc _ => 0xD2#8
  | .outPort _ => 0xD3#8
  | .cnc _ => 0xD4#8
  | .sui _ => 0xD6#8
  | .jc _ => 0xDA#8
  | .inPort _ => 0xDB#8
  | .cc _ => 0xDC#8
  | .sbi _ => 0xDE#8
  | .jpo _ => 0xE2#8
  | .cpo _ => 0xE4#8
  | .ani _ => 0xE6#8
  | .jpe _ => 0xEA#8
  | .cpe _ => 0xEC#8
  | .xri _ => 0xEE#8
  | .jp _ => 0xF2#8
  | .cp _ => 0xF4#8
  | .ori _ => 0xF6#8
  | .jm _ => 0xFA#8
  | .cm _ => 0xFC#8
  | .cpi _ => 0xFE#8
  | .nop => 0x00#8
  | .staxB => 0x02#8
  | .inxB => 0x03#8
  | .inrB => 0x04#8
  | .dcrB => 0x05#8
  | .rlc => 0x07#8
  | .nopDup08 => 0x08#8
  | .dadB => 0x09#8
  | .ldaxB => 0x0A#8
  | .dcxB => 0x0B#8
  | .inrC => 0x0C#8
  | .dcrC => 0x0D#8
  | .rrc => 0x0F#8
  | .nopDup10 => 0x10#8
  | .staxD => 0x12#8
  | .inxD => 0x13#8
  | .inrD => 0x14#8
  | .dcrD => 0x15#8
  | .ral => 0x17#8
  | .nopDup18 => 0x18#8
  | .dadD => 0x19#8
  | .ldaxD => 0x1A#8
  | .dcxD => 0x1B#8
  | .inrE => 0x1C#8
  | .dcrE => 0x1D#8
  | .rar => 0x1F#8
  | .nopDup20 => 0x20#8
  | .inxH => 0x23#8
  | .inrH => 0x24#8
  | .dcrH => 0x25#8
  | .daa => 0x27#8
  | .nopDup28 => 0x28#8
  | .dadH => 0x29#8
  | .dcxH => 0x2B#8
  | .inrL => 0x2C#8
  | .dcrL => 0x2D#8
  | .cma => 0x2F#8
  | .nopDup30 => 0x30#8
  | .inxSp => 0x33#8
  | .inrM => 0x34#8
  | .dcrM => 0x35#8
  | .stc => 0x37#8
  | .nopDup38 => 0x38#8
  | .dadSp => 0x39#8
  | .dcxSp => 0x3B#8
  | .inrA => 0x3C#8
  | .dcrA => 0x3D#8
  | .cmc => 0x3F#8
  | .movBB => 0x40#8
  | .movBC => 0x41#8
  | .movBD => 0x42#8
  | .movBE => 0x43#8
  | .movBH => 0x44#8
  | .movBL => 0x45#8
  | .movBM => 0x46#8
  | .movBA => 0x47#8
  | .movCB => 0x48#8
  | .movCC => 0x49#8
  | .movCD => 0x4A#8
  | .movCE => 0x4B#8
  | .movCH => 0x4C#8
  | .movCL => 0x4D#8
  | .movCM => 0x4E#8
  | .movCA => 0x4F#8
  | .movDB => 0x50#8
  | .movDC => 0x51#8
  | .movDD => 0x52#8
  | .movDE => 0x53#8
  | .movDH => 0x54#8
  | .movDL => 0x55#8
  | .movDM => 0x56#8
  | .movDA => 0x57#8
  | .movEB => 0x58#8
  | .movEC => 0x59#8
  | .movED => 0x5A#8
  | .movEE => 0x5B#8
  | .movEH => 0x5C#8
  | .movEL => 0x5D#8
  | .movEM => 0x5E#8
  | .movEA => 0x5F#8
  | .movHB => 0x60#8
  | .movHC => 0x61#8
  | .movHD => 0x62#8
  | .movHE => 0x63#8
  | .movHH => 0x64#8
  | .movHL => 0x65#8
  | .movHM => 0x66#8
  | .movHA => 0x67#8
  | .movLB => 0x68#8
  | .movLC => 0x69#8
  | .movLD => 0x6A#8
  | .movLE => 0x6B#8
  | .movLH => 0x6C#8
  | .movLL => 0x6D#8
  | .movLM => 0x6E#8
  | .movLA => 0x6F#8
  | .movMB => 0x70#8
  | .movMC => 0x71#8
  | .movMD => 0x72#8
  | .movME => 0x73#8
  | .movMH => 0x74#8
  | .movML => 0x75#8
  | .hlt => 0x76#8
  | .movMA => 0x77#8
  | .movAB => 0x78#8
  | .movAC => 0x79#8
  | .movAD => 0x7A#8
  | .movAE => 0x7B#8
  | .movAH => 0x7C#8
  | .movAL => 0x7D#8
  | .movAM => 0x7E#8
  | .movAA => 0x7F#8
  | .addB => 0x80#8
  | .addC => 0x81#8
  | .addD => 0x82#8
  | .addE => 0x83#8
  | .addH => 0x84#8
  | .addL => 0x85#8
  | .addM => 0x86#8
  | .addA => 0x87#8
  | .adcB => 0x88#8
  | .adcC => 0x89#8
  | .adcD => 0x8A#8
  | .adcE => 0x8B#8
  | .adcH => 0x8C#8
  | .adcL => 0x8D#8
  | .adcM => 0x8E#8
  | .adcA => 0x8F#8
  | .subB => 0x90#8
  | .subC => 0x91#8
  | .subD => 0x92#8
  | .subE => 0x93#8
  | .subH => 0x94#8
  | .subL => 0x95#8
  | .subM => 0x96#8
  | .subA => 0x97#8
  | .sbbB => 0x98#8
  | .sbbC => 0x99#8
  | .sbbD => 0x9A#8
  | .sbbE => 0x9B#8
  | .sbbH => 0x9C#8
  | .sbbL => 0x9D#8
  | .sbbM => 0x9E#8
  | .sbbA => 0x9F#8
  | .anaB => 0xA0#8
  | .anaC => 0xA1#8
  | .anaD => 0xA2#8
  | .anaE => 0xA3#8
  | .anaH => 0xA4#8
  | .anaL => 0xA5#8
  | .anaM => 0xA6#8
  | .anaA => 0xA7#8
  | .xraB => 0xA8#8
  | .xraC => 0xA9#8
  | .xraD => 0xAA#8
  | .xraE => 0xAB#8
  | .xraH => 0xAC#8
  | .xraL => 0xAD#8
  | .xraM => 0xAE#8
  | .xraA => 0xAF#8
  | .oraB => 0xB0#8
  | .oraC => 0xB1#8
  | .oraD => 0xB2#8
  | .oraE => 0xB3#8
  | .oraH => 0xB4#8
  | .oraL => 0xB5#8
  | .oraM => 0xB6#8
  | .oraA => 0xB7#8
  | .cmpB => 0xB8#8
  | .cmpC => 0xB9#8
  | .cmpD => 0xBA#8
  | .cmpE => 0xBB#8
  | .cmpH => 0xBC#8
  | .cmpL => 0xBD#8
  | .cmpM => 0xBE#8
  | .cmpA => 0xBF#8
  | .rnz => 0xC0#8
  | .popB => 0xC1#8
  | .pushB => 0xC5#8
  | .rst0 => 0xC7#8
  | .rz => 0xC8#8
  | .ret => 0xC9#8
  | .unknownCB => 0xCB#8
  | .rst1 => 0xCF#8
  | .rnc => 0xD0#8
  | .popD => 0xD1#8
  | .pushD => 0xD5#8
  | .rst2 => 0xD7#8
  | .rc => 0xD8#8
  | .unknownD9 => 0xD9#8
  | .unknownDD => 0xDD#8
  | .rst3 => 0xDF#8
  | .rpo => 0xE0#8
  | .popH => 0xE1#8
  | .xthl => 0xE3#8
  | .pushH => 0xE5#8
  | .rst4 => 0xE7#8
  | .rpe => 0xE8#8
  | .pchl => 0xE9#8
  | .xchg => 0xEB#8
  | .unknownED => 0xED#8
  | .rst5 => 0xEF#8
  | .rp => 0xF0#8
  | .popPsw => 0xF1#8
  | .di => 0xF3#8
  | .pushPsw => 0xF5#8
  | .rst6 => 0xF7#8
  | .rm => 0xF8#8
  | .sphl => 0xF9#8
  | .ei => 0xFB#8
  | .unknownFD => 0xFD#8
  | .rst7 => 0xFF#8

/-- The bytes after the first: an immediate or port byte, or a word with its low byte first (R61, R65). -/
def operandBytes : Instr → List Byte
  | .mviB d8 | .mviC d8 | .mviD d8 | .mviE d8 | .mviH d8 | .mviL d8 | .mviM d8 | .mviA d8 | .adi d8
  | .aci d8 | .sui d8 | .sbi d8 | .ani d8 | .xri d8 | .ori d8 | .cpi d8 => [d8]
  | .outPort port | .inPort port => [port]
  | .lxiB d16 | .lxiD d16 | .lxiH d16 | .lxiSp d16 => [loByte d16, hiByte d16]
  | .shld a16 | .lhld a16 | .sta a16 | .lda a16 | .jnz a16 | .jmp a16 | .cnz a16 | .jz a16 | .cz a16
  | .call a16 | .jnc a16 | .cnc a16 | .jc a16 | .cc a16 | .jpo a16 | .cpo a16 | .jpe a16 | .cpe a16
  | .jp a16 | .cp a16 | .jm a16 | .cm a16 => [loByte a16, hiByte a16]
  | .nop | .staxB | .inxB | .inrB | .dcrB | .rlc | .nopDup08 | .dadB | .ldaxB | .dcxB | .inrC | .dcrC
  | .rrc | .nopDup10 | .staxD | .inxD | .inrD | .dcrD | .ral | .nopDup18 | .dadD | .ldaxD | .dcxD
  | .inrE | .dcrE | .rar | .nopDup20 | .inxH | .inrH | .dcrH | .daa | .nopDup28 | .dadH | .dcxH | .inrL
  | .dcrL | .cma | .nopDup30 | .inxSp | .inrM | .dcrM | .stc | .nopDup38 | .dadSp | .dcxSp | .inrA
  | .dcrA | .cmc | .movBB | .movBC | .movBD | .movBE | .movBH | .movBL | .movBM | .movBA | .movCB
  | .movCC | .movCD | .movCE | .movCH | .movCL | .movCM | .movCA | .movDB | .movDC | .movDD | .movDE
  | .movDH | .movDL | .movDM | .movDA | .movEB | .movEC | .movED | .movEE | .movEH | .movEL | .movEM
  | .movEA | .movHB | .movHC | .movHD | .movHE | .movHH | .movHL | .movHM | .movHA | .movLB | .movLC
  | .movLD | .movLE | .movLH | .movLL | .movLM | .movLA | .movMB | .movMC | .movMD | .movME | .movMH
  | .movML | .hlt | .movMA | .movAB | .movAC | .movAD | .movAE | .movAH | .movAL | .movAM | .movAA
  | .addB | .addC | .addD | .addE | .addH | .addL | .addM | .addA | .adcB | .adcC | .adcD | .adcE
  | .adcH | .adcL | .adcM | .adcA | .subB | .subC | .subD | .subE | .subH | .subL | .subM | .subA
  | .sbbB | .sbbC | .sbbD | .sbbE | .sbbH | .sbbL | .sbbM | .sbbA | .anaB | .anaC | .anaD | .anaE
  | .anaH | .anaL | .anaM | .anaA | .xraB | .xraC | .xraD | .xraE | .xraH | .xraL | .xraM | .xraA
  | .oraB | .oraC | .oraD | .oraE | .oraH | .oraL | .oraM | .oraA | .cmpB | .cmpC | .cmpD | .cmpE
  | .cmpH | .cmpL | .cmpM | .cmpA | .rnz | .popB | .pushB | .rst0 | .rz | .ret | .unknownCB | .rst1
  | .rnc | .popD | .pushD | .rst2 | .rc | .unknownD9 | .unknownDD | .rst3 | .rpo | .popH | .xthl
  | .pushH | .rst4 | .rpe | .pchl | .xchg | .unknownED | .rst5 | .rp | .popPsw | .di | .pushPsw | .rst6
  | .rm | .sphl | .ei | .unknownFD | .rst7 => []

/-- The bytes of an instruction, the first at the lowest address (R60, R61). -/
def encode (i : Instr) : List Byte := opcode i :: operandBytes i

/-! ### Lengths and classes by first byte -/

/-- The length of an instruction, by its format (R61). -/
def Form.length : Form → Nat
  | .lxi _ _ | .lda _ | .sta _ | .lhld _ | .shld _ | .jmp _ | .jcc _ _ | .call _ | .ccc _ _ => 3
  | .mviReg _ _ | .mviM _ | .alu _ (.imm _) | .inPort _ | .outPort _ => 2
  | .nop | .nopDup _ | .movRegReg _ _ | .movRegM _ | .movMReg _ | .ldax _ | .stax _ | .alu _ (.reg _)
  | .alu _ .m | .inrReg _ | .inrM | .dcrReg _ | .dcrM | .inx _ | .dcx _ | .dad _ | .daa | .rlc | .rrc | .ral
  | .rar | .cma | .stc | .cmc | .ret | .rcc _ | .push _ | .pop _ | .pushPsw | .popPsw | .xchg | .xthl | .pchl
  | .sphl | .hlt | .rst _ | .ei | .di | .unknown _ => 1

/-- `Length(op)`: the first byte alone determines the length (R60, R71). -/
def lengthOf (op : Byte) : Nat := (formOf op 0#8 0#8).length

/-- The four classes of first bytes (R70). -/
inductive OpClass where
  | implemented | nopDup | unimplemented | unknown
  deriving DecidableEq, Repr

/-- The class of a first byte (R70). -/
def classOf (op : Byte) : OpClass :=
  if op ∈ Config.unknownSet then .unknown
  else if op ∈ Config.unimplementedSet then .unimplemented
  else if op ∈ Config.nopDupSet then .nopDup
  else .implemented

/-! ### The decoder -/

/-- The instruction of first byte `op` and operand bytes `b2`, `b3`: total, since every first byte is a row of
the table (R70). -/
def instrOf (op b2 b3 : Byte) : Instr := Instr.ofForm (formOf op b2 b3)

/-- Why a byte string begins with no instruction. Raised by `decode` only; the machine fetches whole
instructions and never meets it. Safe. -/
inductive DecodeRefusal where
  /-- There is no byte at all. -/
  | noBytes
  /-- The first byte asks for more bytes than there are (R71). -/
  | truncated (op : Byte)
  deriving DecidableEq, Repr

/-- The first instruction of a byte string and the bytes after it, or the named refusal (R60, R71). -/
def decode : List Byte → Except DecodeRefusal (Instr × List Byte)
  | [] => .error .noBytes
  | op :: rest =>
    if lengthOf op = 1 then .ok (instrOf op 0#8 0#8, rest)
    else match rest with
      | [] => .error (.truncated op)
      | b2 :: rest2 =>
        if lengthOf op = 2 then .ok (instrOf op b2 0#8, rest2)
        else match rest2 with
          | [] => .error (.truncated op)
          | b3 :: rest3 => .ok (instrOf op b2 b3, rest3)

/-- The three bytes of a number whose bits 7..0 are the first byte, 15..8 the second, 23..16 the third; bits
from `nbits` up count as 0. -/
def tableBytes (nbits w : Nat) : Byte × Byte × Byte :=
  let v := w % 2 ^ nbits
  (BitVec.ofNat 8 v, BitVec.ofNat 8 (v / 256), BitVec.ofNat 8 (v / 65536))

/-- What the decoder reads from an instruction whose bits are `w`, numbered as the opcode table numbers them. -/
def decodeTableWord (nbits w : Nat) : Option Instr :=
  let bytes := tableBytes nbits w
  match decode [bytes.1, bytes.2.1, bytes.2.2] with
  | .ok (i, _) => some i
  | .error _ => none

/-- A source line assembled: checked (R73), then encoded. -/
def assemble (line : SourceLine) : Except IllFormed (List Byte) :=
  line.check.map fun f => encode (Instr.ofForm f)

end Sys2Proof
end

