-- ==== Sys2Proof/Machine/State.lean ====
section
/-! DEFINITION. The state of the machine as plain data (R2, R10, R13, R15, R16, R18), the outputs of the latest
step (R76), the OPEN parameter CYCLES (R4, R277), the reasons a step could stop, and the state after reset
(R20, R270, R271). -/

namespace Sys2Proof.Machine

/-- The five flags, each one bit (R13). There are no others. -/
structure Flags where
  z  : Bool
  s  : Bool
  p  : Bool
  cy : Bool
  ac : Bool
  deriving DecidableEq, Repr

/-- `DecodeError(addr, op)`: the address and the value of an unknown first byte (R241, D13). -/
structure DecodeReport where
  addr : Word
  op   : Byte
  deriving DecidableEq, Repr

/-- One value of the parameter CYCLES: the cost of first byte `op` with the given `taken` (R277). -/
structure CycleEntry where
  op    : Byte
  taken : Bool
  cost  : Byte
  deriving DecidableEq, Repr

/-- Memory as the bytes that differ from the reset byte, in rising address order (`Memory.wf` in Machine/Ops.lean);
an unlisted address reads as `Config.resetByte` (R18, R20, R40). -/
abbrev Memory := List Host.Cell

/-- The state. Registers, flags, SP, PC and memory are all the architectural state there is (R19). The last four
fields are not architectural: the outputs of the latest step (log entries 1 and 2) and the parameter CYCLES (log
entry 3). -/
structure State where
  a : Byte
  b : Byte
  c : Byte
  d : Byte
  e : Byte
  h : Byte
  l : Byte
  flags : Flags
  sp : Word
  pc : Word
  mem : Memory
  /-- Output: the cycle cost of the latest step (R76). -/
  cycles : Byte
  /-- Output: the decode-error report of the latest step, if it made one (R76, R241). -/
  report : Option DecodeReport
  /-- The sticky mark that some step so far made a report (R241). -/
  decodeErrorSeen : Bool
  /-- CYCLES: entries that take the place of the default table's (R277, R278); no instruction writes it. -/
  cyclesParam : List CycleEntry
  deriving DecidableEq, Repr

/-- The reasons a step can stop with a fault: none. "No instruction can fault" (R240); nobody raises one (log
entry 8). Safe: a step that could not be taken would show as a missing proof of completion. -/
inductive Fault where
  deriving DecidableEq, Repr

/-- The reasons a step can be refused. Every instruction of the table has its meaning, so nothing raises one. -/
inductive Refusal where
  /-- An instruction without a meaning yet, by its mnemonic. Raised by no arm of exec. Safe. -/
  | notModelled (mnemonic : String)
  deriving DecidableEq, Repr

/-- All five flags 0, as after reset (R20). -/
def Flags.clear : Flags := ⟨false, false, false, false, false⟩

/-- The machine right after construction, which is reset: every register and flag 0, SP = 0x0000, PC = 0x0100, all
memory 0x00 (R20, R270). The outputs stand at 0, none and unmarked before any step (log entry 4); CYCLES is the
default table (log entry 3). -/
def State.reset : State where
  a := 0x00#8
  b := 0x00#8
  c := 0x00#8
  d := 0x00#8
  e := 0x00#8
  h := 0x00#8
  l := 0x00#8
  flags := Flags.clear
  sp := Config.resetSp
  pc := Config.resetPc
  mem := []
  cycles := 0x00#8
  report := none
  decodeErrorSeen := false
  cyclesParam := []

end Sys2Proof.Machine
end

