-- ==== Sys2Proof/Machine/Cycles.lean ====
section
/-! DEFINITION. The cycle cost of a step: the OPEN parameter CYCLES with its default table (R76, R277, R278). No
state depends on it. -/

namespace Sys2Proof.Machine

/-- The default table, row by row; `taken` matters for conditional calls and returns only (R278). -/
def formCycles (f : Form) (taken : Bool) : Byte :=
  match f with
  | .nop | .nopDup _ => 4#8
  | .movRegReg _ _ => 5#8
  | .movRegM _ | .movMReg _ => 7#8
  | .hlt => 7#8
  | .mviReg _ _ => 7#8
  | .mviM _ => 10#8
  | .lxi _ _ => 10#8
  | .lda _ | .sta _ => 13#8
  | .lhld _ | .shld _ => 16#8
  | .ldax _ | .stax _ => 7#8
  | .xchg => 4#8
  | .xthl => 18#8
  | .sphl | .pchl => 5#8
  | .alu _ (.reg _) => 4#8
  | .alu _ .m => 7#8
  | .alu _ (.imm _) => 7#8
  | .inrReg _ | .dcrReg _ => 5#8
  | .inrM | .dcrM => 10#8
  | .inx _ | .dcx _ => 5#8
  | .dad _ => 10#8
  | .daa | .rlc | .rrc | .ral | .rar | .cma | .stc | .cmc => 4#8
  | .jmp _ => 10#8
  | .jcc _ _ => 10#8
  | .call _ => 17#8
  | .ccc _ _ => if taken then 17#8 else 11#8
  | .ret => 10#8
  | .rcc _ => if taken then 11#8 else 5#8
  | .rst _ => 11#8
  | .push _ | .pushPsw => 11#8
  | .pop _ | .popPsw => 10#8
  | .inPort _ | .outPort _ => 10#8
  | .ei | .di => 4#8
  | .unknown _ => 0#8

/-- The default CYCLES by first byte (R278). -/
def defaultCycles (op : Byte) (taken : Bool) : Byte := formCycles (formOf op 0#8 0#8) taken

/-- The entry of the parameter for a first byte and `taken`, if it has one. -/
def findCycles (op : Byte) (taken : Bool) : List CycleEntry → Option Byte
  | [] => none
  | e :: rest => if e.op = op ∧ e.taken = taken then some e.cost else findCycles op taken rest

/-- The first byte whose cost a first byte has: a NOP duplicate has NOP's, "the cycle cost is that of NOP" (R70, R222,
D6); every other byte has its own. -/
def costByte (op : Byte) : Byte := if op ∈ Config.nopDupSet then 0x00#8 else op

/-- `CYCLES(op, taken)` for a value of the parameter: 0 for an unknown byte, which the source fixes; else the
parameter's entry for the byte whose cost it is, else the default (R222, R277). -/
def cyclesOf (param : List CycleEntry) (op : Byte) (taken : Bool) : Byte :=
  if op ∈ Config.unknownSet then 0#8
  else match findCycles (costByte op) taken param with
    | some cost => cost
    | none => defaultCycles (costByte op) taken

end Sys2Proof.Machine
end

