-- ==== Sys2Proof/Machine/Ops.lean ====
section
/-! DEFINITION. The named operations every meaning is built from: memory, registers and pairs, the stack, fetching,
how a step ends (advance, transfer, outputs), and the one abnormal event, the decode-error report. -/

namespace Sys2Proof.Machine

/-! ### Memory (R40 to R47) -/

/-- The canonical form: addresses strictly rising and inside the 64 KiB (R40), no entry equal to what an unlisted
address reads as. -/
abbrev Memory.wf (m : Memory) : Prop :=
  m.Pairwise (fun x y => x.1 < y.1) ∧ ∀ x ∈ m, x.1 < Config.memBytes ∧ x.2 ≠ Config.resetByte

/-- The byte at a key. -/
def Memory.lookup : Memory → Nat → Byte
  | [], _ => Config.resetByte
  | x :: rest, n => if x.1 = n then x.2 else Memory.lookup rest n

/-- A new entry at its place in address order. -/
def Memory.insert (n : Nat) (v : Byte) : Memory → Memory
  | [] => [(n, v)]
  | x :: rest => if n < x.1 then (n, v) :: x :: rest else x :: Memory.insert n v rest

/-- `MemRead(addr, 1)`: "always succeeds" (R41). -/
def Memory.read (m : Memory) (addr : Word) : Byte := m.lookup addr.toNat

/-- `MemWrite(addr, 1, v)`: "always succeeds, no write protection" (R42). -/
def Memory.write (m : Memory) (addr : Word) (v : Byte) : Memory :=
  let others := m.filter fun x => x.1 != addr.toNat
  if v = Config.resetByte then others else Memory.insert addr.toNat v others

/-- `MemRead(addr, 1)` of the machine (R41). -/
def State.readByte (s : State) (addr : Word) : Byte := s.mem.read addr

/-- `MemWrite(addr, 1, v)` of the machine (R42). -/
def State.writeByte (s : State) (addr : Word) (v : Byte) : State := { s with mem := s.mem.write addr v }

/-- `MemRead16(addr)`: low byte at `addr`, high byte at `addr + 1` mod 65536 (R6, R44). -/
def State.readWord (s : State) (addr : Word) : Word :=
  joinBytes (s.readByte (addr + 1#16)) (s.readByte addr)

/-- `MemWrite16(addr, v)` (R6, R44). -/
def State.writeWord (s : State) (addr : Word) (v : Word) : State :=
  (s.writeByte addr (loByte v)).writeByte (addr + 1#16) (hiByte v)

/-! ### Registers, pairs, SP, PC, flags -/

/-- `R[c]` (R6, R10). -/
def State.reg (s : State) : Reg → Byte
  | .b => s.b
  | .c => s.c
  | .d => s.d
  | .e => s.e
  | .h => s.h
  | .l => s.l
  | .a => s.a

/-- `R[c] <- v` (R6, R10). -/
def State.setReg (s : State) (r : Reg) (v : Byte) : State :=
  match r with
  | .b => { s with b := v }
  | .c => { s with c := v }
  | .d => { s with d := v }
  | .e => { s with e := v }
  | .h => { s with h := v }
  | .l => { s with l := v }
  | .a => { s with a := v }

/-- BC, computed on demand (R11). -/
def State.bc (s : State) : Word := joinBytes s.b s.c

/-- DE (R11). -/
def State.de (s : State) : Word := joinBytes s.d s.e

/-- HL (R11). -/
def State.hl (s : State) : Word := joinBytes s.h s.l

/-- `HL <- v`: both halves together (R6, R11). -/
def State.setHl (s : State) (v : Word) : State := { s with h := hiByte v, l := loByte v }

/-- `RP[p]` (R6, R63). -/
def State.pair (s : State) : Pair → Word
  | .bc => s.bc
  | .de => s.de
  | .hl => s.hl
  | .sp => s.sp

/-- `RP[p] <- v`: the high byte to the first-letter register, the low byte to the second (R6, R11). -/
def State.setPair (s : State) (p : Pair) (v : Word) : State :=
  match p with
  | .bc => { s with b := hiByte v, c := loByte v }
  | .de => { s with d := hiByte v, e := loByte v }
  | .hl => s.setHl v
  | .sp => { s with sp := v }

/-- `SP <- v`. -/
def State.setSp (s : State) (v : Word) : State := { s with sp := v }

/-- `PC <- v`. -/
def State.setPc (s : State) (v : Word) : State := { s with pc := v }

/-- `A <- v`. -/
def State.setA (s : State) (v : Byte) : State := { s with a := v }

/-- All five flags written at once. -/
def State.setFlags (s : State) (f : Flags) : State := { s with flags := f }

/-- `CY <- v`, the other four unchanged. -/
def State.setCy (s : State) (v : Bool) : State := { s with flags := { s.flags with cy := v } }

/-! ### The stack (R15, R170, R171) -/

/-- `Push16(v)`: high byte to SP - 1, low byte to SP - 2, then SP <- SP - 2 (R170). -/
def State.push16 (s : State) (v : Word) : State :=
  ((s.writeByte (s.sp - 1#16) (hiByte v)).writeByte (s.sp - 2#16) (loByte v)).setSp (s.sp - 2#16)

/-- The word `Pop16()` returns: low byte at SP, high byte at SP + 1 (R171). -/
def State.top16 (s : State) : Word := s.readWord s.sp

/-- What `Pop16()` does to the state: SP <- SP + 2; "Memory is not changed by a pop" (R171). -/
def State.popped (s : State) : State := s.setSp (s.sp + 2#16)

/-! ### How a step ends (R17, R75, R76) -/

/-- What a meaning answers. -/
abbrev Result := Host.Outcome State Fault Refusal

/-- The outputs of a step that made no report: its cycle cost, no report; the mark keeps its value (R76). -/
def State.withCost (s : State) (i : Instr) (taken : Bool) : State :=
  { s with cycles := cyclesOf s.cyclesParam (opcode i) taken, report := none }

/-- The address after the instruction, `(PC + len) mod 65536` (R16, R17); `len` is the length of its format, which
is the length its first byte gives (`InstrCoding` in Laws/PerInstr.lean). -/
def State.nextPc (s : State) (i : Instr) : Word := s.pc + BitVec.ofNat 16 i.form.length

/-- The end of an instruction that did not write PC: PC advances by its length (R17 case b, R75). -/
def finish (i : Instr) (s : State) : Result := .next ((s.setPc (s.nextPc i)).withCost i false)

/-- The end of an instruction that wrote PC: the target is "NOT additionally advanced" (R17 case a, R75).
`taken` is 1 for a conditional form whose condition held (R75). -/
def transfer (i : Instr) (taken : Bool) (target : Word) (s : State) : Result :=
  .next ((s.setPc target).withCost i taken)

/-! ### The decode error, the machine's one abnormal event (R229, R241, R245) -/

/-- An unknown first byte: `report DecodeError(PC, op)`, PC + 1, cycles 0, nothing else. It saves nothing, changes
no mode and goes to no handler (R245); so there is no return from it either (R246). -/
def reportDecodeError (i : Instr) (s : State) : Result :=
  .next { s with
    pc := s.pc + 1#16
    cycles := 0#8
    report := some { addr := s.pc, op := opcode i }
    decodeErrorSeen := true }

/-! ### Fetching (R53, R56, R75) -/

/-- The instruction at PC, read from memory at the moment of the step, at PC, PC + 1 and PC + 2 mod 65536. Bytes
beyond its length are read but not looked at; reads have no effect (R41, log entry 7). -/
def State.fetch (s : State) : Instr :=
  instrOf (s.readByte s.pc) (s.readByte (s.pc + 1#16)) (s.readByte (s.pc + 2#16))

/-- The state with three bytes stored where the next instruction is fetched. -/
def State.placeBytes (s : State) (b1 b2 b3 : Byte) : State :=
  ((s.writeByte s.pc b1).writeByte (s.pc + 1#16) b2).writeByte (s.pc + 2#16) b3

end Sys2Proof.Machine
end

