-- ==== Sys2Proof/Machine/Flags.lean ====
section
/-! DEFINITION. Every flag computation of the spec: the primitives ZSP, Add8, Sub8 and Logic8 (R100 to R102, R120),
INR and DCR (R135, R137), DAD (R141), DAA (R220), the rotates (R200 to R203), the flag byte F (R21) and the
conditions (R180). Arithmetic is on integers, narrowed at the end (R5). -/

namespace Sys2Proof.Machine

/-- How many of the eight bits are 1. -/
def onesCount (v : Byte) : Nat := (List.range 8).countP fun k => v.getLsbD k

/-- `parity8(v)`: an even number of 1 bits (R6, R100). -/
def parity8 (v : Byte) : Bool := onesCount v % 2 == 0

/-- `ZSP(v)`: Z, S and P from an 8-bit value; CY and AC untouched (R100). -/
def Flags.zsp (f : Flags) (v : Byte) : Flags := { f with z := v == 0#8, s := v.getLsbD 7, p := parity8 v }

/-- The result of `Add8(a, b, cin)` (R101). -/
def addResult (a b : Byte) (cin : Bool) : Byte := BitVec.ofNat 8 (a.toNat + b.toNat + cin.toNat)

/-- The five flags of `Add8(a, b, cin)` (R101). -/
def addFlags (a b : Byte) (cin : Bool) : Flags :=
  let carries : Flags :=
    { Flags.clear with
      cy := decide (a.toNat + b.toNat + cin.toNat > 255)
      ac := decide (a.toNat % 16 + b.toNat % 16 + cin.toNat > 15) }
  carries.zsp (addResult a b cin)

/-- The result of `Sub8(a, b, bin)` (R102). -/
def subResult (a b : Byte) (bin : Bool) : Byte := BitVec.ofInt 8 ((a.toNat : Int) - b.toNat - bin.toNat)

/-- The five flags of `Sub8(a, b, bin)`: CY and AC are borrows (R102). -/
def subFlags (a b : Byte) (bin : Bool) : Flags :=
  let borrows : Flags :=
    { Flags.clear with
      cy := decide (a.toNat < b.toNat + bin.toNat)
      ac := decide (a.toNat % 16 < b.toNat % 16 + bin.toNat) }
  borrows.zsp (subResult a b bin)

/-- `Logic8(r)`: Z, S, P from the result, CY and AC 0 (R120). -/
def logicFlags (r : Byte) : Flags := Flags.clear.zsp r

/-- The flags of INR on `v`: AC the carry out of bit 3, CY unchanged (R135). -/
def Flags.increment (f : Flags) (v : Byte) : Flags :=
  { f.zsp (v + 1#8) with ac := decide (v.toNat % 16 = 15) }

/-- The flags of DCR on `v`: AC the borrow out of bit 3, CY unchanged (R137). -/
def Flags.decrement (f : Flags) (v : Byte) : Flags :=
  { f.zsp (v - 1#8) with ac := decide (v.toNat % 16 = 0) }

/-- The sum of DAD (R141). -/
def dadResult (hl v : Word) : Word := BitVec.ofNat 16 (hl.toNat + v.toNat)

/-- The CY of DAD: the carry out of bit 15 (R141). -/
def dadCarry (hl v : Word) : Bool := decide (hl.toNat + v.toNat > 65535)

/-- The low nibble of DAA's operand (R220). -/
def lowNibble (a : Byte) : Nat := a.toNat % 16

/-- The high nibble of DAA's operand (R220). -/
def highNibble (a : Byte) : Nat := a.toNat / 16

/-- DAA adds 6 to the low nibble (R220). -/
def daaLow (a : Byte) (ac : Bool) : Bool := decide (lowNibble a > 9) || ac

/-- DAA adds 0x60 (R220). -/
def daaHigh (a : Byte) (cy : Bool) : Bool :=
  decide (highNibble a > 9) || cy || (decide (highNibble a ≥ 9) && decide (lowNibble a > 9))

/-- `corr`, what DAA adds (R220). -/
def daaCorrection (a : Byte) (cy ac : Bool) : Nat :=
  (if daaLow a ac then 0x06 else 0) + (if daaHigh a cy then 0x60 else 0)

/-- The result of DAA (R220). -/
def daaResult (a : Byte) (cy ac : Bool) : Byte := BitVec.ofNat 8 (a.toNat + daaCorrection a cy ac)

/-- The five flags of DAA: CY is set with the high correction and never cleared (R220). -/
def Flags.decimal (f : Flags) (a : Byte) : Flags :=
  { f.zsp (daaResult a f.cy f.ac) with
    cy := f.cy || daaHigh a f.cy
    ac := decide (lowNibble a + daaCorrection a f.cy f.ac % 16 > 15) }

/-- `{A[6:0], c}` (R200, R202). -/
def rotateLeftIn (a : Byte) (c : Bool) : Byte := a.extractLsb' 0 7 ++ BitVec.ofBool c

/-- `{c, A[7:1]}` (R201, R203). -/
def rotateRightIn (a : Byte) (c : Bool) : Byte := BitVec.ofBool c ++ a.extractLsb' 1 7

/-- The flag byte `F = {S, Z, 0, AC, 0, P, 1, CY}` (R21). -/
def Flags.pack (f : Flags) : Byte :=
  BitVec.ofBool f.s ++ BitVec.ofBool f.z ++ 0#1 ++ BitVec.ofBool f.ac ++ 0#1 ++ BitVec.ofBool f.p ++ 1#1 ++
    BitVec.ofBool f.cy

/-- The flags unpacked from a byte; bits 5, 3 and 1 are discarded (R21). -/
def Flags.unpack (v : Byte) : Flags :=
  { s := v.getLsbD 7, z := v.getLsbD 6, ac := v.getLsbD 4, p := v.getLsbD 2, cy := v.getLsbD 0 }

/-- `Cond(ccc)`, a pure function of the flags (R180). -/
def Flags.holds (f : Flags) : Cond → Bool
  | .nz => !f.z
  | .z => f.z
  | .nc => !f.cy
  | .c => f.cy
  | .po => !f.p
  | .pe => f.p
  | .p => !f.s
  | .m => f.s

end Sys2Proof.Machine
end

