-- ==== Sys2Proof/Machine/Operands.lean ====
section
/-! DEFINITION. The operand forms of the machine: register, immediate, direct, and indirect through HL, BC, DE and
SP (the addressing modes of 44_data_movement.md; no displacement, scaling or side effect on the base). -/

namespace Sys2Proof.Machine

/-- The operand `M`: the memory byte at HL (R62). -/
def State.readM (s : State) : Byte := s.readByte s.hl

/-- A write of the operand `M` (R62). -/
def State.writeM (s : State) (v : Byte) : State := s.writeByte s.hl v

/-- The source operand of the accumulator instructions: register, M or immediate (R103 to R134). -/
def State.source (s : State) : Src → Byte
  | .reg r => s.reg r
  | .m => s.readM
  | .imm v => v

/-- The address LDAX and STAX use: BC or DE (R158, R159). -/
def State.indexAddr (s : State) : IndexPair → Word
  | .bc => s.bc
  | .de => s.de

/-- The word PUSH PSW pushes, `{A, F}` (R21, R174). -/
def State.psw (s : State) : Word := joinBytes s.a s.flags.pack

/-- The state after A and the flags are taken from a PSW word (R21, R175). -/
def State.setPsw (s : State) (w : Word) : State := { s with a := hiByte w, flags := Flags.unpack (loByte w) }

end Sys2Proof.Machine
end

