-- ==== Sys2Proof/Machine/Arithmetic.lean ====
section
/-! DEFINITION. The meanings of ADD, ADC, SUB, SBB in their register, M and immediate forms (R103 to R114). -/

namespace Sys2Proof.Machine

/-- `A <- Add8(A, v, cin)` (R101). -/
def addToA (i : Instr) (v : Byte) (cin : Bool) (s : State) : Result :=
  finish i ((s.setA (addResult s.a v cin)).setFlags (addFlags s.a v cin))

/-- `A <- Sub8(A, v, bin)` (R102). -/
def subFromA (i : Instr) (v : Byte) (bin : Bool) (s : State) : Result :=
  finish i ((s.setA (subResult s.a v bin)).setFlags (subFlags s.a v bin))

/-- ADI d8, 0xC6 (R111). -/
def execAdi (d8 : Byte) (s : State) : Result := addToA (.adi d8) d8 false s

/-- ACI d8, 0xCE (R112). -/
def execAci (d8 : Byte) (s : State) : Result := addToA (.aci d8) d8 s.flags.cy s

/-- SUI d8, 0xD6 (R113). -/
def execSui (d8 : Byte) (s : State) : Result := subFromA (.sui d8) d8 false s

/-- SBI d8, 0xDE (R114). -/
def execSbi (d8 : Byte) (s : State) : Result := subFromA (.sbi d8) d8 s.flags.cy s

/-- ADD B, 0x80 (R103). -/
def execAddB (s : State) : Result := addToA .addB (s.reg .b) false s

/-- ADD C, 0x81 (R103). -/
def execAddC (s : State) : Result := addToA .addC (s.reg .c) false s

/-- ADD D, 0x82 (R103). -/
def execAddD (s : State) : Result := addToA .addD (s.reg .d) false s

/-- ADD E, 0x83 (R103). -/
def execAddE (s : State) : Result := addToA .addE (s.reg .e) false s

/-- ADD H, 0x84 (R103). -/
def execAddH (s : State) : Result := addToA .addH (s.reg .h) false s

/-- ADD L, 0x85 (R103). -/
def execAddL (s : State) : Result := addToA .addL (s.reg .l) false s

/-- ADD M, 0x86 (R104). -/
def execAddM (s : State) : Result := addToA .addM s.readM false s

/-- ADD A, 0x87 (R103). -/
def execAddA (s : State) : Result := addToA .addA (s.reg .a) false s

/-- ADC B, 0x88 (R105). -/
def execAdcB (s : State) : Result := addToA .adcB (s.reg .b) s.flags.cy s

/-- ADC C, 0x89 (R105). -/
def execAdcC (s : State) : Result := addToA .adcC (s.reg .c) s.flags.cy s

/-- ADC D, 0x8A (R105). -/
def execAdcD (s : State) : Result := addToA .adcD (s.reg .d) s.flags.cy s

/-- ADC E, 0x8B (R105). -/
def execAdcE (s : State) : Result := addToA .adcE (s.reg .e) s.flags.cy s

/-- ADC H, 0x8C (R105). -/
def execAdcH (s : State) : Result := addToA .adcH (s.reg .h) s.flags.cy s

/-- ADC L, 0x8D (R105). -/
def execAdcL (s : State) : Result := addToA .adcL (s.reg .l) s.flags.cy s

/-- ADC M, 0x8E (R106). -/
def execAdcM (s : State) : Result := addToA .adcM s.readM s.flags.cy s

/-- ADC A, 0x8F (R105). -/
def execAdcA (s : State) : Result := addToA .adcA (s.reg .a) s.flags.cy s

/-- SUB B, 0x90 (R107). -/
def execSubB (s : State) : Result := subFromA .subB (s.reg .b) false s

/-- SUB C, 0x91 (R107). -/
def execSubC (s : State) : Result := subFromA .subC (s.reg .c) false s

/-- SUB D, 0x92 (R107). -/
def execSubD (s : State) : Result := subFromA .subD (s.reg .d) false s

/-- SUB E, 0x93 (R107). -/
def execSubE (s : State) : Result := subFromA .subE (s.reg .e) false s

/-- SUB H, 0x94 (R107). -/
def execSubH (s : State) : Result := subFromA .subH (s.reg .h) false s

/-- SUB L, 0x95 (R107). -/
def execSubL (s : State) : Result := subFromA .subL (s.reg .l) false s

/-- SUB M, 0x96 (R108). -/
def execSubM (s : State) : Result := subFromA .subM s.readM false s

/-- SUB A, 0x97 (R107). -/
def execSubA (s : State) : Result := subFromA .subA (s.reg .a) false s

/-- SBB B, 0x98 (R109). -/
def execSbbB (s : State) : Result := subFromA .sbbB (s.reg .b) s.flags.cy s

/-- SBB C, 0x99 (R109). -/
def execSbbC (s : State) : Result := subFromA .sbbC (s.reg .c) s.flags.cy s

/-- SBB D, 0x9A (R109). -/
def execSbbD (s : State) : Result := subFromA .sbbD (s.reg .d) s.flags.cy s

/-- SBB E, 0x9B (R109). -/
def execSbbE (s : State) : Result := subFromA .sbbE (s.reg .e) s.flags.cy s

/-- SBB H, 0x9C (R109). -/
def execSbbH (s : State) : Result := subFromA .sbbH (s.reg .h) s.flags.cy s

/-- SBB L, 0x9D (R109). -/
def execSbbL (s : State) : Result := subFromA .sbbL (s.reg .l) s.flags.cy s

/-- SBB M, 0x9E (R110). -/
def execSbbM (s : State) : Result := subFromA .sbbM s.readM s.flags.cy s

/-- SBB A, 0x9F (R109). -/
def execSbbA (s : State) : Result := subFromA .sbbA (s.reg .a) s.flags.cy s

end Sys2Proof.Machine
end

