-- ==== Sys2Proof/Machine/Compare.lean ====
section
/-! DEFINITION. The meanings of CMP and CPI (R132 to R134). -/

namespace Sys2Proof.Machine

/-- `discard <- Sub8(A, v, 0)`: the flags are written, A keeps its value (R132). -/
def compareWithA (i : Instr) (v : Byte) (s : State) : Result := finish i (s.setFlags (subFlags s.a v false))

/-- CPI d8, 0xFE (R134). -/
def execCpi (d8 : Byte) (s : State) : Result := compareWithA (.cpi d8) d8 s

/-- CMP B, 0xB8 (R132). -/
def execCmpB (s : State) : Result := compareWithA .cmpB (s.reg .b) s

/-- CMP C, 0xB9 (R132). -/
def execCmpC (s : State) : Result := compareWithA .cmpC (s.reg .c) s

/-- CMP D, 0xBA (R132). -/
def execCmpD (s : State) : Result := compareWithA .cmpD (s.reg .d) s

/-- CMP E, 0xBB (R132). -/
def execCmpE (s : State) : Result := compareWithA .cmpE (s.reg .e) s

/-- CMP H, 0xBC (R132). -/
def execCmpH (s : State) : Result := compareWithA .cmpH (s.reg .h) s

/-- CMP L, 0xBD (R132). -/
def execCmpL (s : State) : Result := compareWithA .cmpL (s.reg .l) s

/-- CMP M, 0xBE (R133). -/
def execCmpM (s : State) : Result := compareWithA .cmpM s.readM s

/-- CMP A, 0xBF (R132). -/
def execCmpA (s : State) : Result := compareWithA .cmpA (s.reg .a) s

end Sys2Proof.Machine
end

