-- ==== Sys2Proof/Machine/Control.lean ====
section
/-! DEFINITION. The meanings of JMP, Jcc, CALL, Ccc, RET, Rcc (R180 to R187). None writes a flag. -/

namespace Sys2Proof.Machine

/-- A conditional jump (R183). -/
def jumpIf (i : Instr) (cond : Cond) (a16 : Word) (s : State) : Result :=
  if s.flags.holds cond then transfer i true a16 s else finish i s

/-- A call: the address of the next sequential instruction is pushed (R181, R184). -/
def callTo (i : Instr) (taken : Bool) (a16 : Word) (s : State) : Result :=
  transfer i taken a16 (s.push16 (s.nextPc i))

/-- A conditional call: no stack access when the condition is false (R185). -/
def callIf (i : Instr) (cond : Cond) (a16 : Word) (s : State) : Result :=
  if s.flags.holds cond then callTo i true a16 s else finish i s

/-- A return: `pc <- Pop16()` (R186). -/
def returnFrom (i : Instr) (taken : Bool) (s : State) : Result := transfer i taken s.top16 s.popped

/-- A conditional return: no stack access when the condition is false (R187). -/
def returnIf (i : Instr) (cond : Cond) (s : State) : Result :=
  if s.flags.holds cond then returnFrom i true s else finish i s

/-- JNZ a16, 0xC2 (R183). -/
def execJnz (a16 : Word) (s : State) : Result := jumpIf (.jnz a16) .nz a16 s

/-- JMP a16, 0xC3 (R182). -/
def execJmp (a16 : Word) (s : State) : Result := transfer (.jmp a16) false a16 s

/-- CNZ a16, 0xC4 (R185). -/
def execCnz (a16 : Word) (s : State) : Result := callIf (.cnz a16) .nz a16 s

/-- JZ a16, 0xCA (R183). -/
def execJz (a16 : Word) (s : State) : Result := jumpIf (.jz a16) .z a16 s

/-- CZ a16, 0xCC (R185). -/
def execCz (a16 : Word) (s : State) : Result := callIf (.cz a16) .z a16 s

/-- CALL a16, 0xCD (R184). -/
def execCall (a16 : Word) (s : State) : Result := callTo (.call a16) false a16 s

/-- JNC a16, 0xD2 (R183). -/
def execJnc (a16 : Word) (s : State) : Result := jumpIf (.jnc a16) .nc a16 s

/-- CNC a16, 0xD4 (R185). -/
def execCnc (a16 : Word) (s : State) : Result := callIf (.cnc a16) .nc a16 s

/-- JC a16, 0xDA (R183). -/
def execJc (a16 : Word) (s : State) : Result := jumpIf (.jc a16) .c a16 s

/-- CC a16, 0xDC (R185). -/
def execCc (a16 : Word) (s : State) : Result := callIf (.cc a16) .c a16 s

/-- JPO a16, 0xE2 (R183). -/
def execJpo (a16 : Word) (s : State) : Result := jumpIf (.jpo a16) .po a16 s

/-- CPO a16, 0xE4 (R185). -/
def execCpo (a16 : Word) (s : State) : Result := callIf (.cpo a16) .po a16 s

/-- JPE a16, 0xEA (R183). -/
def execJpe (a16 : Word) (s : State) : Result := jumpIf (.jpe a16) .pe a16 s

/-- CPE a16, 0xEC (R185). -/
def execCpe (a16 : Word) (s : State) : Result := callIf (.cpe a16) .pe a16 s

/-- JP a16, 0xF2 (R183). -/
def execJp (a16 : Word) (s : State) : Result := jumpIf (.jp a16) .p a16 s

/-- CP a16, 0xF4 (R185). -/
def execCp (a16 : Word) (s : State) : Result := callIf (.cp a16) .p a16 s

/-- JM a16, 0xFA (R183). -/
def execJm (a16 : Word) (s : State) : Result := jumpIf (.jm a16) .m a16 s

/-- CM a16, 0xFC (R185). -/
def execCm (a16 : Word) (s : State) : Result := callIf (.cm a16) .m a16 s

/-- RNZ, 0xC0 (R187). -/
def execRnz (s : State) : Result := returnIf .rnz .nz s

/-- RZ, 0xC8 (R187). -/
def execRz (s : State) : Result := returnIf .rz .z s

/-- RET, 0xC9 (R186). -/
def execRet (s : State) : Result := returnFrom .ret false s

/-- RNC, 0xD0 (R187). -/
def execRnc (s : State) : Result := returnIf .rnc .nc s

/-- RC, 0xD8 (R187). -/
def execRc (s : State) : Result := returnIf .rc .c s

/-- RPO, 0xE0 (R187). -/
def execRpo (s : State) : Result := returnIf .rpo .po s

/-- RPE, 0xE8 (R187). -/
def execRpe (s : State) : Result := returnIf .rpe .pe s

/-- RP, 0xF0 (R187). -/
def execRp (s : State) : Result := returnIf .rp .p s

/-- RM, 0xF8 (R187). -/
def execRm (s : State) : Result := returnIf .rm .m s

end Sys2Proof.Machine
end

