-- ==== Sys2Proof/Machine/DataMovement.lean ====
section
/-! DEFINITION. The meanings of MOV, MVI, LXI, LDA, STA, LDAX, STAX, LHLD, SHLD (R150 to R161). None writes a flag. -/

namespace Sys2Proof.Machine

/-- A byte into a register (R150, R151, R153, R156, R158). The value is read before the write. -/
def loadReg (i : Instr) (r : Reg) (v : Byte) (s : State) : Result := finish i (s.setReg r v)

/-- A byte into the memory byte at HL (R152, R154). -/
def storeM (i : Instr) (v : Byte) (s : State) : Result := finish i (s.writeM v)

/-- LXI B,d16, 0x01 (R155). -/
def execLxiB (d16 : Word) (s : State) : Result := finish (.lxiB d16) (s.setPair .bc d16)

/-- MVI B,d8, 0x06 (R153). -/
def execMviB (d8 : Byte) (s : State) : Result := loadReg (.mviB d8) .b d8 s

/-- MVI C,d8, 0x0E (R153). -/
def execMviC (d8 : Byte) (s : State) : Result := loadReg (.mviC d8) .c d8 s

/-- LXI D,d16, 0x11 (R155). -/
def execLxiD (d16 : Word) (s : State) : Result := finish (.lxiD d16) (s.setPair .de d16)

/-- MVI D,d8, 0x16 (R153). -/
def execMviD (d8 : Byte) (s : State) : Result := loadReg (.mviD d8) .d d8 s

/-- MVI E,d8, 0x1E (R153). -/
def execMviE (d8 : Byte) (s : State) : Result := loadReg (.mviE d8) .e d8 s

/-- LXI H,d16, 0x21 (R155). -/
def execLxiH (d16 : Word) (s : State) : Result := finish (.lxiH d16) (s.setPair .hl d16)

/-- SHLD a16, 0x22 (R161). -/
def execShld (a16 : Word) (s : State) : Result := finish (.shld a16) (s.writeWord a16 s.hl)

/-- MVI H,d8, 0x26 (R153). -/
def execMviH (d8 : Byte) (s : State) : Result := loadReg (.mviH d8) .h d8 s

/-- LHLD a16, 0x2A (R160). -/
def execLhld (a16 : Word) (s : State) : Result := finish (.lhld a16) (s.setHl (s.readWord a16))

/-- MVI L,d8, 0x2E (R153). -/
def execMviL (d8 : Byte) (s : State) : Result := loadReg (.mviL d8) .l d8 s

/-- LXI SP,d16, 0x31 (R155). -/
def execLxiSp (d16 : Word) (s : State) : Result := finish (.lxiSp d16) (s.setPair .sp d16)

/-- STA a16, 0x32 (R157). -/
def execSta (a16 : Word) (s : State) : Result := finish (.sta a16) (s.writeByte a16 s.a)

/-- MVI M,d8, 0x36 (R154). -/
def execMviM (d8 : Byte) (s : State) : Result := storeM (.mviM d8) d8 s

/-- LDA a16, 0x3A (R156). -/
def execLda (a16 : Word) (s : State) : Result := loadReg (.lda a16) .a (s.readByte a16) s

/-- MVI A,d8, 0x3E (R153). -/
def execMviA (d8 : Byte) (s : State) : Result := loadReg (.mviA d8) .a d8 s

/-- STAX B, 0x02 (R159). -/
def execStaxB (s : State) : Result := finish .staxB (s.writeByte (s.indexAddr .bc) s.a)

/-- LDAX B, 0x0A (R158). -/
def execLdaxB (s : State) : Result := loadReg .ldaxB .a (s.readByte (s.indexAddr .bc)) s

/-- STAX D, 0x12 (R159). -/
def execStaxD (s : State) : Result := finish .staxD (s.writeByte (s.indexAddr .de) s.a)

/-- LDAX D, 0x1A (R158). -/
def execLdaxD (s : State) : Result := loadReg .ldaxD .a (s.readByte (s.indexAddr .de)) s

/-- MOV B,B, 0x40 (R150). -/
def execMovBB (s : State) : Result := loadReg .movBB .b (s.reg .b) s

/-- MOV B,C, 0x41 (R150). -/
def execMovBC (s : State) : Result := loadReg .movBC .b (s.reg .c) s

/-- MOV B,D, 0x42 (R150). -/
def execMovBD (s : State) : Result := loadReg .movBD .b (s.reg .d) s

/-- MOV B,E, 0x43 (R150). -/
def execMovBE (s : State) : Result := loadReg .movBE .b (s.reg .e) s

/-- MOV B,H, 0x44 (R150). -/
def execMovBH (s : State) : Result := loadReg .movBH .b (s.reg .h) s

/-- MOV B,L, 0x45 (R150). -/
def execMovBL (s : State) : Result := loadReg .movBL .b (s.reg .l) s

/-- MOV B,M, 0x46 (R151). -/
def execMovBM (s : State) : Result := loadReg .movBM .b s.readM s

/-- MOV B,A, 0x47 (R150). -/
def execMovBA (s : State) : Result := loadReg .movBA .b (s.reg .a) s

/-- MOV C,B, 0x48 (R150). -/
def execMovCB (s : State) : Result := loadReg .movCB .c (s.reg .b) s

/-- MOV C,C, 0x49 (R150). -/
def execMovCC (s : State) : Result := loadReg .movCC .c (s.reg .c) s

/-- MOV C,D, 0x4A (R150). -/
def execMovCD (s : State) : Result := loadReg .movCD .c (s.reg .d) s

/-- MOV C,E, 0x4B (R150). -/
def execMovCE (s : State) : Result := loadReg .movCE .c (s.reg .e) s

/-- MOV C,H, 0x4C (R150). -/
def execMovCH (s : State) : Result := loadReg .movCH .c (s.reg .h) s

/-- MOV C,L, 0x4D (R150). -/
def execMovCL (s : State) : Result := loadReg .movCL .c (s.reg .l) s

/-- MOV C,M, 0x4E (R151). -/
def execMovCM (s : State) : Result := loadReg .movCM .c s.readM s

/-- MOV C,A, 0x4F (R150). -/
def execMovCA (s : State) : Result := loadReg .movCA .c (s.reg .a) s

/-- MOV D,B, 0x50 (R150). -/
def execMovDB (s : State) : Result := loadReg .movDB .d (s.reg .b) s

/-- MOV D,C, 0x51 (R150). -/
def execMovDC (s : State) : Result := loadReg .movDC .d (s.reg .c) s

/-- MOV D,D, 0x52 (R150). -/
def execMovDD (s : State) : Result := loadReg .movDD .d (s.reg .d) s

/-- MOV D,E, 0x53 (R150). -/
def execMovDE (s : State) : Result := loadReg .movDE .d (s.reg .e) s

/-- MOV D,H, 0x54 (R150). -/
def execMovDH (s : State) : Result := loadReg .movDH .d (s.reg .h) s

/-- MOV D,L, 0x55 (R150). -/
def execMovDL (s : State) : Result := loadReg .movDL .d (s.reg .l) s

/-- MOV D,M, 0x56 (R151). -/
def execMovDM (s : State) : Result := loadReg .movDM .d s.readM s

/-- MOV D,A, 0x57 (R150). -/
def execMovDA (s : State) : Result := loadReg .movDA .d (s.reg .a) s

/-- MOV E,B, 0x58 (R150). -/
def execMovEB (s : State) : Result := loadReg .movEB .e (s.reg .b) s

/-- MOV E,C, 0x59 (R150). -/
def execMovEC (s : State) : Result := loadReg .movEC .e (s.reg .c) s

/-- MOV E,D, 0x5A (R150). -/
def execMovED (s : State) : Result := loadReg .movED .e (s.reg .d) s

/-- MOV E,E, 0x5B (R150). -/
def execMovEE (s : State) : Result := loadReg .movEE .e (s.reg .e) s

/-- MOV E,H, 0x5C (R150). -/
def execMovEH (s : State) : Result := loadReg .movEH .e (s.reg .h) s

/-- MOV E,L, 0x5D (R150). -/
def execMovEL (s : State) : Result := loadReg .movEL .e (s.reg .l) s

/-- MOV E,M, 0x5E (R151). -/
def execMovEM (s : State) : Result := loadReg .movEM .e s.readM s

/-- MOV E,A, 0x5F (R150). -/
def execMovEA (s : State) : Result := loadReg .movEA .e (s.reg .a) s

/-- MOV H,B, 0x60 (R150). -/
def execMovHB (s : State) : Result := loadReg .movHB .h (s.reg .b) s

/-- MOV H,C, 0x61 (R150). -/
def execMovHC (s : State) : Result := loadReg .movHC .h (s.reg .c) s

/-- MOV H,D, 0x62 (R150). -/
def execMovHD (s : State) : Result := loadReg .movHD .h (s.reg .d) s

/-- MOV H,E, 0x63 (R150). -/
def execMovHE (s : State) : Result := loadReg .movHE .h (s.reg .e) s

/-- MOV H,H, 0x64 (R150). -/
def execMovHH (s : State) : Result := loadReg .movHH .h (s.reg .h) s

/-- MOV H,L, 0x65 (R150). -/
def execMovHL (s : State) : Result := loadReg .movHL .h (s.reg .l) s

/-- MOV H,M, 0x66 (R151). -/
def execMovHM (s : State) : Result := loadReg .movHM .h s.readM s

/-- MOV H,A, 0x67 (R150). -/
def execMovHA (s : State) : Result := loadReg .movHA .h (s.reg .a) s

/-- MOV L,B, 0x68 (R150). -/
def execMovLB (s : State) : Result := loadReg .movLB .l (s.reg .b) s

/-- MOV L,C, 0x69 (R150). -/
def execMovLC (s : State) : Result := loadReg .movLC .l (s.reg .c) s

/-- MOV L,D, 0x6A (R150). -/
def execMovLD (s : State) : Result := loadReg .movLD .l (s.reg .d) s

/-- MOV L,E, 0x6B (R150). -/
def execMovLE (s : State) : Result := loadReg .movLE .l (s.reg .e) s

/-- MOV L,H, 0x6C (R150). -/
def execMovLH (s : State) : Result := loadReg .movLH .l (s.reg .h) s

/-- MOV L,L, 0x6D (R150). -/
def execMovLL (s : State) : Result := loadReg .movLL .l (s.reg .l) s

/-- MOV L,M, 0x6E (R151). -/
def execMovLM (s : State) : Result := loadReg .movLM .l s.readM s

/-- MOV L,A, 0x6F (R150). -/
def execMovLA (s : State) : Result := loadReg .movLA .l (s.reg .a) s

/-- MOV M,B, 0x70 (R152). -/
def execMovMB (s : State) : Result := storeM .movMB (s.reg .b) s

/-- MOV M,C, 0x71 (R152). -/
def execMovMC (s : State) : Result := storeM .movMC (s.reg .c) s

/-- MOV M,D, 0x72 (R152). -/
def execMovMD (s : State) : Result := storeM .movMD (s.reg .d) s

/-- MOV M,E, 0x73 (R152). -/
def execMovME (s : State) : Result := storeM .movME (s.reg .e) s

/-- MOV M,H, 0x74 (R152). -/
def execMovMH (s : State) : Result := storeM .movMH (s.reg .h) s

/-- MOV M,L, 0x75 (R152). -/
def execMovML (s : State) : Result := storeM .movML (s.reg .l) s

/-- MOV M,A, 0x77 (R152). -/
def execMovMA (s : State) : Result := storeM .movMA (s.reg .a) s

/-- MOV A,B, 0x78 (R150). -/
def execMovAB (s : State) : Result := loadReg .movAB .a (s.reg .b) s

/-- MOV A,C, 0x79 (R150). -/
def execMovAC (s : State) : Result := loadReg .movAC .a (s.reg .c) s

/-- MOV A,D, 0x7A (R150). -/
def execMovAD (s : State) : Result := loadReg .movAD .a (s.reg .d) s

/-- MOV A,E, 0x7B (R150). -/
def execMovAE (s : State) : Result := loadReg .movAE .a (s.reg .e) s

/-- MOV A,H, 0x7C (R150). -/
def execMovAH (s : State) : Result := loadReg .movAH .a (s.reg .h) s

/-- MOV A,L, 0x7D (R150). -/
def execMovAL (s : State) : Result := loadReg .movAL .a (s.reg .l) s

/-- MOV A,M, 0x7E (R151). -/
def execMovAM (s : State) : Result := loadReg .movAM .a s.readM s

/-- MOV A,A, 0x7F (R150). -/
def execMovAA (s : State) : Result := loadReg .movAA .a (s.reg .a) s

end Sys2Proof.Machine
end

