-- ==== Sys2Proof/Machine/Exchange.lean ====
section
/-! DEFINITION. The meanings of XCHG, XTHL, PCHL, SPHL (R210 to R213). None writes a flag. -/

namespace Sys2Proof.Machine

/-- XTHL, 0xE3 (R211). -/
def execXthl (s : State) : Result := finish .xthl ((s.writeWord s.sp s.hl).setHl s.top16)

/-- PCHL, 0xE9 (R212). -/
def execPchl (s : State) : Result := transfer .pchl false s.hl s

/-- XCHG, 0xEB (R210). -/
def execXchg (s : State) : Result := finish .xchg ((s.setPair .de s.hl).setHl s.de)

/-- SPHL, 0xF9 (R213). -/
def execSphl (s : State) : Result := finish .sphl (s.setSp s.hl)

end Sys2Proof.Machine
end

