-- ==== Sys2Proof/Machine/IncDec.lean ====
section
/-! DEFINITION. The meanings of INR, DCR, INX, DCX, DAD (R135 to R141). -/

namespace Sys2Proof.Machine

/-- INR of a register (R135). -/
def incrementReg (i : Instr) (r : Reg) (s : State) : Result :=
  finish i ((s.setReg r (s.reg r + 1#8)).setFlags (s.flags.increment (s.reg r)))

/-- INR of the memory byte at HL (R136). -/
def incrementM (i : Instr) (s : State) : Result :=
  finish i ((s.writeM (s.readM + 1#8)).setFlags (s.flags.increment s.readM))

/-- DCR of a register (R137). -/
def decrementReg (i : Instr) (r : Reg) (s : State) : Result :=
  finish i ((s.setReg r (s.reg r - 1#8)).setFlags (s.flags.decrement (s.reg r)))

/-- DCR of the memory byte at HL (R138). -/
def decrementM (i : Instr) (s : State) : Result :=
  finish i ((s.writeM (s.readM - 1#8)).setFlags (s.flags.decrement s.readM))

/-- DAD: HL plus a pair, carry out of bit 15 to CY (R141). -/
def addToHl (i : Instr) (v : Word) (s : State) : Result :=
  finish i ((s.setHl (dadResult s.hl v)).setCy (dadCarry s.hl v))

/-- INX B, 0x03 (R139). -/
def execInxB (s : State) : Result := finish .inxB (s.setPair .bc (s.pair .bc + 1#16))

/-- INR B, 0x04 (R135). -/
def execInrB (s : State) : Result := incrementReg .inrB .b s

/-- DCR B, 0x05 (R137). -/
def execDcrB (s : State) : Result := decrementReg .dcrB .b s

/-- DAD B, 0x09 (R141). -/
def execDadB (s : State) : Result := addToHl .dadB (s.pair .bc) s

/-- DCX B, 0x0B (R140). -/
def execDcxB (s : State) : Result := finish .dcxB (s.setPair .bc (s.pair .bc - 1#16))

/-- INR C, 0x0C (R135). -/
def execInrC (s : State) : Result := incrementReg .inrC .c s

/-- DCR C, 0x0D (R137). -/
def execDcrC (s : State) : Result := decrementReg .dcrC .c s

/-- INX D, 0x13 (R139). -/
def execInxD (s : State) : Result := finish .inxD (s.setPair .de (s.pair .de + 1#16))

/-- INR D, 0x14 (R135). -/
def execInrD (s : State) : Result := incrementReg .inrD .d s

/-- DCR D, 0x15 (R137). -/
def execDcrD (s : State) : Result := decrementReg .dcrD .d s

/-- DAD D, 0x19 (R141). -/
def execDadD (s : State) : Result := addToHl .dadD (s.pair .de) s

/-- DCX D, 0x1B (R140). -/
def execDcxD (s : State) : Result := finish .dcxD (s.setPair .de (s.pair .de - 1#16))

/-- INR E, 0x1C (R135). -/
def execInrE (s : State) : Result := incrementReg .inrE .e s

/-- DCR E, 0x1D (R137). -/
def execDcrE (s : State) : Result := decrementReg .dcrE .e s

/-- INX H, 0x23 (R139). -/
def execInxH (s : State) : Result := finish .inxH (s.setPair .hl (s.pair .hl + 1#16))

/-- INR H, 0x24 (R135). -/
def execInrH (s : State) : Result := incrementReg .inrH .h s

/-- DCR H, 0x25 (R137). -/
def execDcrH (s : State) : Result := decrementReg .dcrH .h s

/-- DAD H, 0x29 (R141). -/
def execDadH (s : State) : Result := addToHl .dadH (s.pair .hl) s

/-- DCX H, 0x2B (R140). -/
def execDcxH (s : State) : Result := finish .dcxH (s.setPair .hl (s.pair .hl - 1#16))

/-- INR L, 0x2C (R135). -/
def execInrL (s : State) : Result := incrementReg .inrL .l s

/-- DCR L, 0x2D (R137). -/
def execDcrL (s : State) : Result := decrementReg .dcrL .l s

/-- INX SP, 0x33 (R139). -/
def execInxSp (s : State) : Result := finish .inxSp (s.setPair .sp (s.pair .sp + 1#16))

/-- INR M, 0x34 (R136). -/
def execInrM (s : State) : Result := incrementM .inrM s

/-- DCR M, 0x35 (R138). -/
def execDcrM (s : State) : Result := decrementM .dcrM s

/-- DAD SP, 0x39 (R141). -/
def execDadSp (s : State) : Result := addToHl .dadSp (s.pair .sp) s

/-- DCX SP, 0x3B (R140). -/
def execDcxSp (s : State) : Result := finish .dcxSp (s.setPair .sp (s.pair .sp - 1#16))

/-- INR A, 0x3C (R135). -/
def execInrA (s : State) : Result := incrementReg .inrA .a s

/-- DCR A, 0x3D (R137). -/
def execDcrA (s : State) : Result := decrementReg .dcrA .a s

end Sys2Proof.Machine
end

