-- ==== Sys2Proof/Machine/Logical.lean ====
section
/-! DEFINITION. The meanings of ANA, XRA, ORA in their register, M and immediate forms (R120 to R129). -/

namespace Sys2Proof.Machine

/-- `A <- r; Logic8(r)` (R120). -/
def logicToA (i : Instr) (r : Byte) (s : State) : Result := finish i ((s.setA r).setFlags (logicFlags r))

/-- ANI d8, 0xE6 (R127). -/
def execAni (d8 : Byte) (s : State) : Result := logicToA (.ani d8) (s.a &&& d8) s

/-- XRI d8, 0xEE (R128). -/
def execXri (d8 : Byte) (s : State) : Result := logicToA (.xri d8) (s.a ^^^ d8) s

/-- ORI d8, 0xF6 (R129). -/
def execOri (d8 : Byte) (s : State) : Result := logicToA (.ori d8) (s.a ||| d8) s

/-- ANA B, 0xA0 (R121). -/
def execAnaB (s : State) : Result := logicToA .anaB (s.a &&& s.reg .b) s

/-- ANA C, 0xA1 (R121). -/
def execAnaC (s : State) : Result := logicToA .anaC (s.a &&& s.reg .c) s

/-- ANA D, 0xA2 (R121). -/
def execAnaD (s : State) : Result := logicToA .anaD (s.a &&& s.reg .d) s

/-- ANA E, 0xA3 (R121). -/
def execAnaE (s : State) : Result := logicToA .anaE (s.a &&& s.reg .e) s

/-- ANA H, 0xA4 (R121). -/
def execAnaH (s : State) : Result := logicToA .anaH (s.a &&& s.reg .h) s

/-- ANA L, 0xA5 (R121). -/
def execAnaL (s : State) : Result := logicToA .anaL (s.a &&& s.reg .l) s

/-- ANA M, 0xA6 (R122). -/
def execAnaM (s : State) : Result := logicToA .anaM (s.a &&& s.readM) s

/-- ANA A, 0xA7 (R121). -/
def execAnaA (s : State) : Result := logicToA .anaA (s.a &&& s.reg .a) s

/-- XRA B, 0xA8 (R123). -/
def execXraB (s : State) : Result := logicToA .xraB (s.a ^^^ s.reg .b) s

/-- XRA C, 0xA9 (R123). -/
def execXraC (s : State) : Result := logicToA .xraC (s.a ^^^ s.reg .c) s

/-- XRA D, 0xAA (R123). -/
def execXraD (s : State) : Result := logicToA .xraD (s.a ^^^ s.reg .d) s

/-- XRA E, 0xAB (R123). -/
def execXraE (s : State) : Result := logicToA .xraE (s.a ^^^ s.reg .e) s

/-- XRA H, 0xAC (R123). -/
def execXraH (s : State) : Result := logicToA .xraH (s.a ^^^ s.reg .h) s

/-- XRA L, 0xAD (R123). -/
def execXraL (s : State) : Result := logicToA .xraL (s.a ^^^ s.reg .l) s

/-- XRA M, 0xAE (R124). -/
def execXraM (s : State) : Result := logicToA .xraM (s.a ^^^ s.readM) s

/-- XRA A, 0xAF (R123). -/
def execXraA (s : State) : Result := logicToA .xraA (s.a ^^^ s.reg .a) s

/-- ORA B, 0xB0 (R125). -/
def execOraB (s : State) : Result := logicToA .oraB (s.a ||| s.reg .b) s

/-- ORA C, 0xB1 (R125). -/
def execOraC (s : State) : Result := logicToA .oraC (s.a ||| s.reg .c) s

/-- ORA D, 0xB2 (R125). -/
def execOraD (s : State) : Result := logicToA .oraD (s.a ||| s.reg .d) s

/-- ORA E, 0xB3 (R125). -/
def execOraE (s : State) : Result := logicToA .oraE (s.a ||| s.reg .e) s

/-- ORA H, 0xB4 (R125). -/
def execOraH (s : State) : Result := logicToA .oraH (s.a ||| s.reg .h) s

/-- ORA L, 0xB5 (R125). -/
def execOraL (s : State) : Result := logicToA .oraL (s.a ||| s.reg .l) s

/-- ORA M, 0xB6 (R126). -/
def execOraM (s : State) : Result := logicToA .oraM (s.a ||| s.readM) s

/-- ORA A, 0xB7 (R125). -/
def execOraA (s : State) : Result := logicToA .oraA (s.a ||| s.reg .a) s

end Sys2Proof.Machine
end

