-- ==== Sys2Proof/Machine/Misc.lean ====
section
/-! DEFINITION. The meanings of DAA (R220); NOP and its duplicates (R221, R222); the thirteen recognized-but-unimplemented bytes,
which change no state but PC (R223 to R228); the unknown bytes (R229). -/

namespace Sys2Proof.Machine

/-- OUT d8, 0xD3 (R226). -/
def execOut (port : Byte) (s : State) : Result := finish (.outPort port) s

/-- IN d8, 0xDB (R225). -/
def execIn (port : Byte) (s : State) : Result := finish (.inPort port) s

/-- NOP, 0x00 (R221). -/
def execNop (s : State) : Result := finish .nop s

/-- NOP duplicate 0x08, 0x08 (R222). -/
def execNopDup08 (s : State) : Result := finish .nopDup08 s

/-- NOP duplicate 0x10, 0x10 (R222). -/
def execNopDup10 (s : State) : Result := finish .nopDup10 s

/-- NOP duplicate 0x18, 0x18 (R222). -/
def execNopDup18 (s : State) : Result := finish .nopDup18 s

/-- NOP duplicate 0x20, 0x20 (R222). -/
def execNopDup20 (s : State) : Result := finish .nopDup20 s

/-- DAA, 0x27 (R220). -/
def execDaa (s : State) : Result :=
  finish .daa ((s.setA (daaResult s.a s.flags.cy s.flags.ac)).setFlags (s.flags.decimal s.a))

/-- NOP duplicate 0x28, 0x28 (R222). -/
def execNopDup28 (s : State) : Result := finish .nopDup28 s

/-- NOP duplicate 0x30, 0x30 (R222). -/
def execNopDup30 (s : State) : Result := finish .nopDup30 s

/-- NOP duplicate 0x38, 0x38 (R222). -/
def execNopDup38 (s : State) : Result := finish .nopDup38 s

/-- HLT, 0x76 (R223). -/
def execHlt (s : State) : Result := finish .hlt s

/-- RST 0, 0xC7 (R224). -/
def execRst0 (s : State) : Result := finish .rst0 s

/-- unknown byte 0xCB, 0xCB (R229). -/
def execUnknownCB (s : State) : Result := reportDecodeError .unknownCB s

/-- RST 1, 0xCF (R224). -/
def execRst1 (s : State) : Result := finish .rst1 s

/-- RST 2, 0xD7 (R224). -/
def execRst2 (s : State) : Result := finish .rst2 s

/-- unknown byte 0xD9, 0xD9 (R229). -/
def execUnknownD9 (s : State) : Result := reportDecodeError .unknownD9 s

/-- unknown byte 0xDD, 0xDD (R229). -/
def execUnknownDD (s : State) : Result := reportDecodeError .unknownDD s

/-- RST 3, 0xDF (R224). -/
def execRst3 (s : State) : Result := finish .rst3 s

/-- RST 4, 0xE7 (R224). -/
def execRst4 (s : State) : Result := finish .rst4 s

/-- unknown byte 0xED, 0xED (R229). -/
def execUnknownED (s : State) : Result := reportDecodeError .unknownED s

/-- RST 5, 0xEF (R224). -/
def execRst5 (s : State) : Result := finish .rst5 s

/-- DI, 0xF3 (R228). -/
def execDi (s : State) : Result := finish .di s

/-- RST 6, 0xF7 (R224). -/
def execRst6 (s : State) : Result := finish .rst6 s

/-- EI, 0xFB (R227). -/
def execEi (s : State) : Result := finish .ei s

/-- unknown byte 0xFD, 0xFD (R229). -/
def execUnknownFD (s : State) : Result := reportDecodeError .unknownFD s

/-- RST 7, 0xFF (R224). -/
def execRst7 (s : State) : Result := finish .rst7 s

end Sys2Proof.Machine
end

