-- ==== Sys2Proof/Machine/Rotate.lean ====
section
/-! DEFINITION. The meanings of RLC, RRC, RAL, RAR, CMA, STC, CMC (R200 to R206). CMA writes no flag, the others CY only. -/

namespace Sys2Proof.Machine

/-- A rotated value into A and the bit rotated out into CY (R200 to R203). -/
def rotateA (i : Instr) (r : Byte) (out : Bool) (s : State) : Result := finish i ((s.setA r).setCy out)

/-- RLC, 0x07 (R200). -/
def execRlc (s : State) : Result := rotateA .rlc (rotateLeftIn s.a (s.a.getLsbD 7)) (s.a.getLsbD 7) s

/-- RRC, 0x0F (R201). -/
def execRrc (s : State) : Result := rotateA .rrc (rotateRightIn s.a (s.a.getLsbD 0)) (s.a.getLsbD 0) s

/-- RAL, 0x17 (R202). -/
def execRal (s : State) : Result := rotateA .ral (rotateLeftIn s.a s.flags.cy) (s.a.getLsbD 7) s

/-- RAR, 0x1F (R203). -/
def execRar (s : State) : Result := rotateA .rar (rotateRightIn s.a s.flags.cy) (s.a.getLsbD 0) s

/-- CMA, 0x2F (R204). -/
def execCma (s : State) : Result := finish .cma (s.setA (~~~s.a))

/-- STC, 0x37 (R205). -/
def execStc (s : State) : Result := finish .stc (s.setCy true)

/-- CMC, 0x3F (R206). -/
def execCmc (s : State) : Result := finish .cmc (s.setCy (!s.flags.cy))

end Sys2Proof.Machine
end

