-- ==== Sys2Proof/Machine/Stack.lean ====
section
/-! DEFINITION. The meanings of PUSH, POP, PUSH PSW, POP PSW (R170 to R175). -/

namespace Sys2Proof.Machine

/-- POP B, 0xC1 (R173). -/
def execPopB (s : State) : Result := finish .popB (s.popped.setPair .bc s.top16)

/-- PUSH B, 0xC5 (R172). -/
def execPushB (s : State) : Result := finish .pushB (s.push16 (s.pair .bc))

/-- POP D, 0xD1 (R173). -/
def execPopD (s : State) : Result := finish .popD (s.popped.setPair .de s.top16)

/-- PUSH D, 0xD5 (R172). -/
def execPushD (s : State) : Result := finish .pushD (s.push16 (s.pair .de))

/-- POP H, 0xE1 (R173). -/
def execPopH (s : State) : Result := finish .popH (s.popped.setPair .hl s.top16)

/-- PUSH H, 0xE5 (R172). -/
def execPushH (s : State) : Result := finish .pushH (s.push16 (s.pair .hl))

/-- POP PSW, 0xF1 (R175). -/
def execPopPsw (s : State) : Result := finish .popPsw (s.popped.setPsw s.top16)

/-- PUSH PSW, 0xF5 (R174). -/
def execPushPsw (s : State) : Result := finish .pushPsw (s.push16 s.psw)

end Sys2Proof.Machine
end

