-- ==== Sys2Proof/Machine/Step.lean ====
section
/-! DEFINITION. One step: fetch, decode, execute, advance (R75). It is total: every state has a next state. -/

namespace Sys2Proof.Machine

/-- One step runs the instruction that memory holds at PC (R53, R75). The outputs of rule R76 are fields of the
state it answers (log entry 1). -/
def step (s : State) : Host.Outcome State Fault Refusal := exec s.fetch s

/-- `s` with the instruction whose bits are `w` stored at PC, where step fetches; bits from `nbits` up are 0. It
stands for the host's loader (R55, log entry 6). -/
def State.withFetchWord (s : State) (nbits w : Nat) : State :=
  let bytes := tableBytes nbits w
  s.placeBytes bytes.1 bytes.2.1 bytes.2.2

end Sys2Proof.Machine
end

