-- ==== Sys2Proof/Machine/HostAccess.lean ====
section
/-! DEFINITION. What the host may do at a step boundary: read and write memory, load an image before the first step,
and look at the state (R55, R252, R272). It has no way to write registers, flags, SP or PC (R55 e). -/

namespace Sys2Proof.Machine

/-- The values of the state dump: "(A, B, C, D, E, H, L, SP, PC, Z, S, P, CY, AC)" (R252). -/
structure Dump where
  a : Byte
  b : Byte
  c : Byte
  d : Byte
  e : Byte
  h : Byte
  l : Byte
  sp : Word
  pc : Word
  z : Bool
  s : Bool
  p : Bool
  cy : Bool
  ac : Bool
  deriving DecidableEq, Repr

/-- The host's observation of the registers; it has no effect on the machine (R252). -/
def State.dump (s : State) : Dump :=
  { a := s.a, b := s.b, c := s.c, d := s.d, e := s.e, h := s.h, l := s.l, sp := s.sp, pc := s.pc,
    z := s.flags.z, s := s.flags.s, p := s.flags.p, cy := s.flags.cy, ac := s.flags.ac }

/-- The host's `read` (R41, R55 c). -/
def State.hostRead (s : State) (addr : Word) : Byte := s.readByte addr

/-- The host's `write` (R42, R55). -/
def State.hostWrite (s : State) (addr : Word) (v : Byte) : State := s.writeByte addr v

/-- A program image placed byte by byte from `addr` up, wrapping (R55 b). -/
def State.load (s : State) (addr : Word) : List Byte → State
  | [] => s
  | v :: rest => (s.hostWrite addr v).load (addr + 1#16) rest

/-- The machine constructed and loaded, ready for its first step at 0x0100 (R272). -/
def State.launch (addr : Word) (image : List Byte) : State := State.reset.load addr image

end Sys2Proof.Machine
end

