-- ==== Sys2Proof/Safety.lean ====
section
/-! DEFINITION. The terms in which claims about runs are made: the invariant of the state, "no decode error
reported", reachability by steps, and the spec's convention for the end of a run. -/

namespace Sys2Proof.Machine

/-- What every step keeps: memory is in its canonical form (R40). -/
def State.Inv (s : State) : Prop := s.mem.wf

/-- No step so far has reported a decode error: the premise rule R241 names. -/
def State.noDecodeError (s : State) : Prop := s.decodeErrorSeen = false

/-- `t` is reached from `s` by steps, with no host write between (a run, R8). -/
inductive Steps : State → State → Prop where
  | refl (s : State) : Steps s s
  | tail (s t u : State) : Steps s t → step t = .next u → Steps s u

/-- The next instruction to execute is HLT. -/
def State.atHlt (s : State) : Bool := s.readByte s.pc == 0x76#8

/-- The state at the end of a run: "the step boundary immediately after the first step whose opcode byte was 0x76",
within `fuel` steps; none if the run has not ended by then (R274, D16). The core itself never stops. -/
def runToHlt : Nat → State → Option State
  | 0, _ => none
  | fuel + 1, s =>
    match step s with
    | .next t => if s.atHlt then some t else runToHlt fuel t
    | .fault _ => none
    | .refused _ => none

end Sys2Proof.Machine
end

