-- ==== Sys2Proof/Certificates/Slice0/Obligations.lean ====
section
/-! DEFINITION. The statements for the provers. First the words they are made of (namespace Sys2Proof.Claims), written
from the spec's tables and apart from the model's own operations; then one `def Obligations.<Name> : Prop` each.
`Instr.ofForm f` names the rows of the opcode table by mnemonic and field values, so a statement over all `f` of one
shape is a statement over every row of that shape. -/

namespace Sys2Proof.Claims

open Sys2Proof.Machine

/-! ### Lengths, classes and conditions as the spec's tables list them -/

/-- The first bytes of length 3 (R71). -/
def threeByteSet : List Byte :=
  [0x01#8, 0x11#8, 0x21#8, 0x31#8, 0x22#8, 0x2A#8, 0x32#8, 0x3A#8, 0xC3#8] ++
  [0xC2#8, 0xCA#8, 0xD2#8, 0xDA#8, 0xE2#8, 0xEA#8, 0xF2#8, 0xFA#8, 0xCD#8] ++
  [0xC4#8, 0xCC#8, 0xD4#8, 0xDC#8, 0xE4#8, 0xEC#8, 0xF4#8, 0xFC#8]

/-- The first bytes of length 2 (R71). -/
def twoByteSet : List Byte :=
  [0x06#8, 0x0E#8, 0x16#8, 0x1E#8, 0x26#8, 0x2E#8, 0x36#8, 0x3E#8] ++
  [0xC6#8, 0xCE#8, 0xD6#8, 0xDE#8, 0xE6#8, 0xEE#8, 0xF6#8, 0xFE#8, 0xD3#8, 0xDB#8]

/-- The class of a form (R70). -/
def formClass (f : Form) : OpClass :=
  match f with
  | .unknown _ => .unknown
  | .nopDup _ => .nopDup
  | .hlt | .rst _ | .inPort _ | .outPort _ | .ei | .di => .unimplemented
  | .nop | .movRegReg _ _ | .movRegM _ | .movMReg _ | .mviReg _ _ | .mviM _ | .lxi _ _ | .lda _ | .sta _
    | .lhld _ | .shld _ | .ldax _ | .stax _ | .alu _ _ | .inrReg _ | .inrM | .dcrReg _ | .dcrM | .inx _
    | .dcx _ | .dad _ | .daa | .rlc | .rrc | .ral | .rar | .cma | .stc | .cmc | .jmp _ | .jcc _ _
    | .call _ | .ccc _ _ | .ret | .rcc _ | .push _ | .pop _ | .pushPsw | .popPsw | .xchg | .xthl | .pchl
    | .sphl => .implemented

/-- The table of rule R180: the value of the flag a condition tests for which it is true. -/
def condition (f : Flags) : Cond → Prop
  | .nz => f.z = false
  | .z => f.z = true
  | .nc => f.cy = false
  | .c => f.cy = true
  | .po => f.p = false
  | .pe => f.p = true
  | .p => f.s = false
  | .m => f.s = true

/-- The number of bytes of an accumulator instruction with this operand (R61). -/
def sourceLength : Src → Word
  | .reg _ | .m => 1#16
  | .imm _ => 2#16

/-! ### Flags -/

/-- An even number of 1 bits: no odd one is left when the eight bits are added modulo 2 (R6). -/
def evenOnes (r : Byte) : Bool :=
  !(r.getLsbD 0 ^^ r.getLsbD 1 ^^ r.getLsbD 2 ^^ r.getLsbD 3 ^^ r.getLsbD 4 ^^ r.getLsbD 5 ^^ r.getLsbD 6 ^^
    r.getLsbD 7)

/-- The flags with Z, S and P of the result `r` and the given CY and AC (R13, R100). -/
def resultFlags (r : Byte) (cy ac : Bool) : Flags :=
  { z := decide (r = 0#8), s := decide (128 ≤ r.toNat), p := evenOnes r, cy := cy, ac := ac }

/-- A bit as a byte. -/
def bit (v : Bool) : Byte := if v then 1#8 else 0#8

/-! ### What an instruction writes, as the spec's tables list it -/

/-- The halves of a pair; SP has none (R11, R63). -/
def pairRegs : Pair → List Reg
  | .bc => [.b, .c]
  | .de => [.d, .e]
  | .hl => [.h, .l]
  | .sp => []

/-- The registers an instruction writes (R10 and the instruction rules). -/
def destinations (f : Form) : List Reg :=
  match f with
  | .movRegReg r _ | .movRegM r | .mviReg r _ => [r]
  | .inrReg r | .dcrReg r => [r]
  | .lxi p _ | .inx p | .dcx p => pairRegs p
  | .pop p => pairRegs p.toPair
  | .lda _ | .ldax _ => [.a]
  | .alu o _ => if o = .cmp then [] else [.a]
  | .daa | .rlc | .rrc | .ral | .rar | .cma | .popPsw => [.a]
  | .lhld _ | .dad _ | .xthl => [.h, .l]
  | .xchg => [.d, .e, .h, .l]
  | .nop | .nopDup _ | .movMReg _ | .mviM _ | .sta _ | .shld _ | .stax _ | .inrM | .dcrM | .stc | .cmc
    | .jmp _ | .jcc _ _ | .call _ | .ccc _ _ | .ret | .rcc _ | .push _ | .pushPsw | .pchl | .sphl | .hlt
    | .rst _ | .inPort _ | .outPort _ | .ei | .di | .unknown _ => []

/-- The flags an instruction writes, the table of rule R14: each field says whether that flag is listed. -/
def flagsListed (f : Form) : Flags :=
  match f with
  | .alu _ _ => ⟨true, true, true, true, true⟩
  | .inrReg _ | .inrM | .dcrReg _ | .dcrM => ⟨true, true, true, false, true⟩
  | .dad _ => ⟨false, false, false, true, false⟩
  | .daa => ⟨true, true, true, true, true⟩
  | .rlc | .rrc | .ral | .rar | .stc | .cmc => ⟨false, false, false, true, false⟩
  | .popPsw => ⟨true, true, true, true, true⟩
  | .nop | .nopDup _ | .movRegReg _ _ | .movRegM _ | .movMReg _ | .mviReg _ _ | .mviM _ | .lxi _ _
    | .lda _ | .sta _ | .lhld _ | .shld _ | .ldax _ | .stax _ | .inx _ | .dcx _ | .cma | .jmp _
    | .jcc _ _ | .call _ | .ccc _ _ | .ret | .rcc _ | .push _ | .pop _ | .pushPsw | .xchg | .xthl | .pchl
    | .sphl | .hlt | .rst _ | .inPort _ | .outPort _ | .ei | .di | .unknown _ => ⟨false, false, false, false, false⟩

/-- The addresses an instruction stores to, from the state it starts in: the writers of rule R57 with the addresses of
their rules. A conditional call stores only when it is taken. -/
def storedTo (f : Form) (s : State) : List Word :=
  match f with
  | .movMReg _ | .mviM _ | .inrM | .dcrM => [s.hl]
  | .sta a16 => [a16]
  | .stax x => [s.indexAddr x]
  | .shld a16 => [a16, a16 + 1#16]
  | .push _ | .pushPsw | .call _ => [s.sp - 1#16, s.sp - 2#16]
  | .ccc cond _ => if s.flags.holds cond then [s.sp - 1#16, s.sp - 2#16] else []
  | .xthl => [s.sp, s.sp + 1#16]
  | .nop | .nopDup _ | .movRegReg _ _ | .movRegM _ | .mviReg _ _ | .lxi _ _ | .lda _ | .lhld _ | .ldax _
    | .alu _ _ | .inrReg _ | .dcrReg _ | .inx _ | .dcx _ | .dad _ | .daa | .rlc | .rrc | .ral | .rar
    | .cma | .stc | .cmc | .jmp _ | .jcc _ _ | .ret | .rcc _ | .pop _ | .popPsw | .xchg | .pchl | .sphl
    | .hlt | .rst _ | .inPort _ | .outPort _ | .ei | .di | .unknown _ => []

/-- The addresses an instruction reads data from: the readers of rule R57. -/
def loadedFrom (f : Form) (s : State) : List Word :=
  match f with
  | .movRegM _ | .inrM | .dcrM => [s.hl]
  | .alu _ src => if src = .m then [s.hl] else []
  | .lda a16 => [a16]
  | .ldax x => [s.indexAddr x]
  | .lhld a16 => [a16, a16 + 1#16]
  | .pop _ | .popPsw | .ret | .xthl => [s.sp, s.sp + 1#16]
  | .rcc cond => if s.flags.holds cond then [s.sp, s.sp + 1#16] else []
  | .nop | .nopDup _ | .movRegReg _ _ | .movMReg _ | .mviReg _ _ | .mviM _ | .lxi _ _ | .sta _ | .shld _
    | .stax _ | .inrReg _ | .dcrReg _ | .inx _ | .dcx _ | .dad _ | .daa | .rlc | .rrc | .ral | .rar
    | .cma | .stc | .cmc | .jmp _ | .jcc _ _ | .call _ | .ccc _ _ | .push _ | .pushPsw | .xchg | .pchl
    | .sphl | .hlt | .rst _ | .inPort _ | .outPort _ | .ei | .di | .unknown _ => []

/-- Whether the condition of a conditional form holds; no other form has one (R75). -/
def takes (f : Form) (s : State) : Bool :=
  match f with
  | .jcc cond _ | .ccc cond _ | .rcc cond => s.flags.holds cond
  | .nop | .nopDup _ | .movRegReg _ _ | .movRegM _ | .movMReg _ | .mviReg _ _ | .mviM _ | .lxi _ _
    | .lda _ | .sta _ | .lhld _ | .shld _ | .ldax _ | .stax _ | .alu _ _ | .inrReg _ | .inrM | .dcrReg _
    | .dcrM | .inx _ | .dcx _ | .dad _ | .daa | .rlc | .rrc | .ral | .rar | .cma | .stc | .cmc | .jmp _
    | .call _ | .ret | .push _ | .pop _ | .pushPsw | .popPsw | .xchg | .xthl | .pchl | .sphl | .hlt
    | .rst _ | .inPort _ | .outPort _ | .ei | .di | .unknown _ => false

/-- The word at an address, its low byte first (R44). -/
def wordAt (s : State) (addr : Word) : Word := joinBytes (s.readByte (addr + 1#16)) (s.readByte addr)

/-- PC after an instruction (R17): its target where it writes PC, else the address after it. -/
def pcAfter (f : Form) (s : State) : Word :=
  match f with
  | .jmp a16 | .call a16 => a16
  | .jcc cond a16 | .ccc cond a16 => if s.flags.holds cond then a16 else s.pc + 3#16
  | .ret => wordAt s s.sp
  | .rcc cond => if s.flags.holds cond then wordAt s s.sp else s.pc + 1#16
  | .pchl => joinBytes s.h s.l
  | .lxi _ _ | .lda _ | .sta _ | .lhld _ | .shld _ => s.pc + 3#16
  | .mviReg _ _ | .mviM _ | .inPort _ | .outPort _ => s.pc + 2#16
  | .alu _ src => s.pc + sourceLength src
  | .nop | .nopDup _ | .movRegReg _ _ | .movRegM _ | .movMReg _ | .ldax _ | .stax _ | .inrReg _ | .inrM
    | .dcrReg _ | .dcrM | .inx _ | .dcx _ | .dad _ | .daa | .rlc | .rrc | .ral | .rar | .cma | .stc
    | .cmc | .push _ | .pop _ | .pushPsw | .popPsw | .xchg | .xthl | .sphl | .hlt | .rst _ | .ei | .di
    | .unknown _ => s.pc + 1#16

/-- SP after an instruction (R15). -/
def spAfter (f : Form) (s : State) : Word :=
  match f with
  | .lxi p d16 => if p = .sp then d16 else s.sp
  | .inx p => if p = .sp then s.sp + 1#16 else s.sp
  | .dcx p => if p = .sp then s.sp - 1#16 else s.sp
  | .sphl => joinBytes s.h s.l
  | .push _ | .pushPsw | .call _ => s.sp - 2#16
  | .pop _ | .popPsw | .ret => s.sp + 2#16
  | .ccc cond _ => if s.flags.holds cond then s.sp - 2#16 else s.sp
  | .rcc cond => if s.flags.holds cond then s.sp + 2#16 else s.sp
  | .nop | .nopDup _ | .movRegReg _ _ | .movRegM _ | .movMReg _ | .mviReg _ _ | .mviM _ | .lda _ | .sta _
    | .lhld _ | .shld _ | .ldax _ | .stax _ | .alu _ _ | .inrReg _ | .inrM | .dcrReg _ | .dcrM | .dad _
    | .daa | .rlc | .rrc | .ral | .rar | .cma | .stc | .cmc | .jmp _ | .jcc _ _ | .xchg | .xthl | .pchl
    | .hlt | .rst _ | .inPort _ | .outPort _ | .ei | .di | .unknown _ => s.sp

/-! ### Frames -/

/-- Every register outside `ds` has its old value. -/
def RegsBut (ds : List Reg) (s t : State) : Prop := ∀ q, q ∉ ds → t.reg q = s.reg q

/-- Every byte of memory outside `addrs` reads as before. -/
def MemBut (addrs : List Word) (s t : State) : Prop := ∀ addr, addr ∉ addrs → t.readByte addr = s.readByte addr

/-- The state `t` with the given PC and the outputs of a step of the row `f` that made no report (R75, R76). -/
def ended (f : Form) (taken : Bool) (pc : Word) (t : State) : State :=
  { t with pc := pc, cycles := cyclesOf t.cyclesParam (opcode (Instr.ofForm f)) taken, report := none }

/-- Nothing but the named PC, the registers in `ds` and the bytes at `addrs` differs: flags, SP and the rest of the
architectural state are as before. -/
def Moved (ds : List Reg) (addrs : List Word) (pc : Word) (s t : State) : Prop :=
  RegsBut ds s t ∧ MemBut addrs s t ∧ t.flags = s.flags ∧ t.sp = s.sp ∧ t.pc = pc

/-- Two states agree on everything the spec gives the machine (R2): registers, flags, SP, PC, memory. -/
def SameMachine (s t : State) : Prop :=
  (∀ r, s.reg r = t.reg r) ∧ s.flags = t.flags ∧ s.sp = t.sp ∧ s.pc = t.pc ∧ s.mem = t.mem

/-- `n` executions of one instruction, one after the other. -/
def repeated (i : Instr) : Nat → State → Option State
  | 0, s => some s
  | n + 1, s =>
    match exec i s with
    | .next t => repeated i n t
    | .fault _ => none
    | .refused _ => none

/-- The two decimal digits of a packed-BCD byte as a number. -/
def decimal (v : Byte) : Nat := 10 * (v.toNat / 16) + v.toNat % 16

/-- Both nibbles are decimal digits. -/
def isDecimal (v : Byte) : Prop := v.toNat / 16 ≤ 9 ∧ v.toNat % 16 ≤ 9

/-- The sequential reading of DAA in rule R220: step 1 on the low nibble, step 2 on what step 1 leaves. The answer is
A, CY and AC after it. -/
def daaInTwoSteps (a : Byte) (cy ac : Bool) : Byte × Bool × Bool :=
  let low := 9 < a.toNat % 16 ∨ ac = true
  let t := if low then a.toNat + 6 else a.toNat
  let high := 9 < t / 16 ∨ cy = true
  (BitVec.ofNat 8 (if high then t + 0x60 else t), decide high, decide (low ∧ 15 < a.toNat % 16 + 6))

end Sys2Proof.Claims

open Sys2Proof Sys2Proof.Machine Sys2Proof.Claims

/-! ## Encoding and decoding -/

/-- Decoding the encoding of any instruction, whatever bytes follow, gives it back with every operand. The numbers of
the opcode map and the byte order of operands are the spec's decisions D5 and D2 (log entry 5). -/
def Obligations.DecodeAfterEncodeReturnsTheInstruction : Prop :=
  ∀ (i : Instr) (rest : List Byte), decode (encode i ++ rest) = .ok (i, rest)

/-- Encoding what was decoded from any bytes gives those bytes back, as many as the instruction has: every word has one
meaning (D5, D2; log entry 5). -/
def Obligations.EncodeAfterDecodeReturnsTheBytes : Prop :=
  ∀ op b2 b3 : Byte, encode (instrOf op b2 b3) = [op, b2, b3].take (lengthOf op)

/-- Words written out from the spec's formats decode to what they stand for: DOC's own bytes 0x3E, 0x06, 0x80 and 0xCB,
then one word of a format each (D5; log entry 5). -/
def Obligations.SpecWordsDecodeAsWritten : Prop :=
  decode [0b00111110#8, 0x05#8] = .ok (.mviA 0x05#8, []) ∧
  decode [0b00000110#8, 0x03#8] = .ok (.mviB 0x03#8, []) ∧
  decode [0b10000000#8] = .ok (.addB, []) ∧
  decode [0b11001011#8] = .ok (.unknownCB, []) ∧
  decode [0b01110110#8] = .ok (.hlt, []) ∧
  decode [0b00100001#8, 0x03#8, 0x01#8] = .ok (.lxiH 0x0103#16, []) ∧
  decode [0b11011100#8, 0x00#8, 0x03#8] = .ok (.cc 0x0300#16, []) ∧
  decode [0b11110001#8, 0xC3#8] = .ok (.popPsw, [0xC3#8])

/-- The length of every instruction is the one rule R71 lists for its first byte; the lengths of HLT, RST, IN, OUT, EI
and DI are decision D19, the byte numbers D5 (log entry 5). -/
def Obligations.LengthFollowsTheFirstByte : Prop :=
  ∀ i : Instr, (encode i).length =
    if opcode i ∈ threeByteSet then 3 else if opcode i ∈ twoByteSet then 2 else 1

/-- Every first byte, whatever bytes follow, decodes to an instruction of its class in rule R70; the members of the
classes are decisions D6 and D7 (log entry 5). -/
def Obligations.FirstByteDecidesTheClass : Prop :=
  ∀ op b2 b3 : Byte, formClass (instrOf op b2 b3).form =
    if op ∈ Config.unknownSet then .unknown
    else if op ∈ Config.nopDupSet then .nopDup
    else if op ∈ Config.unimplementedSet then .unimplemented
    else .implemented

/-- An instruction written in assembler is well formed and reads back as itself; the syntax is decision D21 (log
entry 10). -/
def Obligations.AssemblerReadsBackWhatItWrites : Prop :=
  ∀ (f : Form) (line : SourceLine), f.source = some line → line.check = .ok f

/-! ## The step -/

/-- When the bytes at PC decode to an instruction, a step from there is exactly that instruction's execution: step adds
nothing around exec. The outputs stand in the state (log entry 1). -/
def Obligations.StepRunsTheDecodedInstruction : Prop :=
  ∀ (s : State) (i : Instr) (rest : List Byte),
    decode [s.readByte s.pc, s.readByte (s.pc + 1#16), s.readByte (s.pc + 2#16)] = .ok (i, rest) →
      step s = exec i s

/-- When memory from PC on, wrapping, holds the encoding of an instruction, a step runs it. -/
def Obligations.StepRunsTheEncodedInstruction : Prop :=
  ∀ (s : State) (i : Instr),
    (∀ (k : Nat) (v : Byte), (encode i)[k]? = some v → s.readByte (s.pc + BitVec.ofNat 16 k) = v) →
      step s = exec i s

/-- "No instruction can fault": every instruction and every step answers a next state, from every state (R240). -/
def Obligations.NoInstructionCanFault : Prop :=
  (∀ (i : Instr) (s : State), ∃ t, exec i s = .next t) ∧ ∀ s : State, ∃ t, step s = .next t

/-- The PC advance law of rule R17 for all instructions. Which byte of a popped return address is low is decision D3, the
lengths are D19 (log entry 5). -/
def Obligations.PcAdvanceLaw : Prop :=
  ∀ (i : Instr) (s : State), ∃ t, exec i s = .next t ∧ t.pc = pcAfter i.form s

/-- SP changes where rule R15 says and nowhere else, by what it says (decision D3 has no part in it). -/
def Obligations.StackPointerLaw : Prop :=
  ∀ (i : Instr) (s : State), ∃ t, exec i s = .next t ∧ t.sp = spAfter i.form s

/-- A flag that the table of rule R14 does not list for an instruction keeps its value. That table follows the spec's
decisions D9 and D10 for DAA and the rotates (log entry 5). -/
def Obligations.FlagsNotListedKeepTheirValue : Prop :=
  ∀ (i : Instr) (s : State), ∃ t, exec i s = .next t ∧
    ((flagsListed i.form).z = false → t.flags.z = s.flags.z) ∧
    ((flagsListed i.form).s = false → t.flags.s = s.flags.s) ∧
    ((flagsListed i.form).p = false → t.flags.p = s.flags.p) ∧
    ((flagsListed i.form).cy = false → t.flags.cy = s.flags.cy) ∧
    ((flagsListed i.form).ac = false → t.flags.ac = s.flags.ac)

/-- A register that is no destination of an instruction keeps its value (the frame of every instruction's registers). -/
def Obligations.RegistersNotDestinationsKeepTheirValue : Prop :=
  ∀ (i : Instr) (s : State), ∃ t, exec i s = .next t ∧ RegsBut (destinations i.form) s t

/-- Every byte of memory outside the addresses an instruction stores to reads as before (the frame of memory; the
writers are those of rule R57). -/
def Obligations.MemoryOutsideTheStoresKeepsItsValue : Prop :=
  ∀ (i : Instr) (s : State), ∃ t, exec i s = .next t ∧ MemBut (storedTo i.form s) s t

/-- Registers, flags, SP, PC and the bytes stored by an instruction depend on no memory byte but those rule R57 lets it read:
two states that differ only in other bytes go to states that agree on all of them. -/
def Obligations.DataReadOnlyWhereListed : Prop :=
  ∀ (i : Instr) (s : State) (m : Memory),
    (∀ addr ∈ loadedFrom i.form s, m.read addr = s.mem.read addr) →
      ∃ t u, exec i s = .next t ∧ exec i { s with mem := m } = .next u ∧
        (∀ r, t.reg r = u.reg r) ∧ t.flags = u.flags ∧ t.sp = u.sp ∧ t.pc = u.pc ∧
        ∀ addr ∈ storedTo i.form s, t.readByte addr = u.readByte addr

/-- The outputs of every instruction: its CYCLES cost, 0 for an unknown byte and NOP's for a NOP duplicate (which bytes those
are is decision D6, log entry 5); the report for an unknown byte and no other; the mark set by a report and never cleared. The fields that hold them are the model's (log entries 1, 2, 3); what the
report contains is decision D13. -/
def Obligations.OutputsOfEveryInstruction : Prop :=
  ∀ (i : Instr) (s : State), ∃ t, exec i s = .next t ∧
    t.cycles = (if opcode i ∈ Config.unknownSet then 0#8
      else cyclesOf s.cyclesParam (opcode i) (takes i.form s)) ∧
    (opcode i ∈ Config.nopDupSet → t.cycles = cyclesOf s.cyclesParam (opcode .nop) false) ∧
    t.report = (if opcode i ∈ Config.unknownSet then some ⟨s.pc, opcode i⟩ else none) ∧
    t.decodeErrorSeen = (s.decodeErrorSeen || decide (opcode i ∈ Config.unknownSet)) ∧
    t.cyclesParam = s.cyclesParam

/-- Outputs and CYCLES never feed back: two machines that agree on registers, flags, SP, PC and memory step to machines
that agree on them, whatever their outputs, marks and CYCLES values are, and make the same report. -/
def Obligations.OutputsNeverFeedBack : Prop :=
  ∀ s s' : State, SameMachine s s' →
    ∃ t t', step s = .next t ∧ step s' = .next t' ∧ SameMachine t t' ∧ t.report = t'.report

/-- After a step the mark is set exactly when it was set before or the FIRST byte fetched is an unknown one; an operand
byte with such a value sets nothing (the mark is the model's field, log entry 2). -/
def Obligations.MarkIsSetByUnknownFirstBytesOnly : Prop :=
  ∀ s : State, ∃ t, step s = .next t ∧
    (t.decodeErrorSeen = true ↔ s.decodeErrorSeen = true ∨ s.readByte s.pc ∈ Config.unknownSet)

/-- Memory's canonical form is kept by every step, from every state that has it (the form is the model's own). -/
def Obligations.StepKeepsMemoryCanonical : Prop :=
  ∀ s t : State, s.Inv → step s = .next t → t.Inv

/-- Memory at reset is in its canonical form (the form is the model's own). -/
def Obligations.ResetMemoryIsCanonical : Prop := State.reset.Inv

/-- The reset state of rule R20: registers and flags 0, SP 0x0000, PC 0x0100, every memory byte 0x00. -/
def Obligations.ResetStateIsAllZeroButPc : Prop :=
  (∀ r, State.reset.reg r = 0x00#8) ∧
  State.reset.flags = { z := false, s := false, p := false, cy := false, ac := false } ∧
  State.reset.sp = 0x0000#16 ∧ State.reset.pc = 0x0100#16 ∧
  ∀ addr : Word, State.reset.readByte addr = 0x00#8

/-- A store into the instruction stream is seen by the next fetch: MOV M,r onto the next instruction's first byte makes the
next step execute the byte stored. -/
def Obligations.StoreIsSeenByTheNextFetch : Prop :=
  ∀ (s : State) (r : Reg), s.hl = s.pc + 1#16 →
    ∃ t, exec (Instr.ofForm (.movMReg r)) s = .next t ∧
      step t = exec (instrOf (s.reg r) (s.readByte (s.pc + 2#16)) (s.readByte (s.pc + 3#16))) t

/-! ## Arithmetic, logical and compare -/

/-- ADD and ADC in every operand form: the sum to A, the five flags of Add8, nothing else (R101). -/
def Obligations.AdditionWritesSumAndFlags : Prop :=
  ∀ (src : Src) (s : State),
    let v := s.source src
    exec (Instr.ofForm (.alu .add src)) s = .next (ended (.alu .add src) false (s.pc + sourceLength src) { s with
      a := s.a + v
      flags := resultFlags (s.a + v) (decide (s.a.toNat + v.toNat > 255))
        (decide (s.a.toNat % 16 + v.toNat % 16 > 15)) }) ∧
    let cin := bit s.flags.cy
    exec (Instr.ofForm (.alu .adc src)) s = .next (ended (.alu .adc src) false (s.pc + sourceLength src) { s with
      a := s.a + v + cin
      flags := resultFlags (s.a + v + cin) (decide (s.a.toNat + v.toNat + cin.toNat > 255))
        (decide (s.a.toNat % 16 + v.toNat % 16 + cin.toNat > 15)) })

/-- SUB and SBB in every operand form: the difference to A, CY and AC as BORROWS (decision D8; log entry 5). -/
def Obligations.SubtractionWritesDifferenceAndBorrows : Prop :=
  ∀ (src : Src) (s : State),
    let v := s.source src
    exec (Instr.ofForm (.alu .sub src)) s = .next (ended (.alu .sub src) false (s.pc + sourceLength src) { s with
      a := s.a - v
      flags := resultFlags (s.a - v) (decide (s.a.toNat < v.toNat))
        (decide (s.a.toNat % 16 < v.toNat % 16)) }) ∧
    let bin := bit s.flags.cy
    exec (Instr.ofForm (.alu .sbb src)) s = .next (ended (.alu .sbb src) false (s.pc + sourceLength src) { s with
      a := s.a - v - bin
      flags := resultFlags (s.a - v - bin) (decide (s.a.toNat < v.toNat + bin.toNat))
        (decide (s.a.toNat % 16 < v.toNat % 16 + bin.toNat)) })

/-- ANA, XRA and ORA in every operand form: the result to A, Z S P from it, CY and AC cleared (R120 to R129). -/
def Obligations.LogicClearsCarries : Prop :=
  ∀ (src : Src) (s : State),
    let v := s.source src
    exec (Instr.ofForm (.alu .ana src)) s = .next (ended (.alu .ana src) false (s.pc + sourceLength src)
      { s with a := s.a &&& v, flags := resultFlags (s.a &&& v) false false }) ∧
    exec (Instr.ofForm (.alu .xra src)) s = .next (ended (.alu .xra src) false (s.pc + sourceLength src)
      { s with a := s.a ^^^ v, flags := resultFlags (s.a ^^^ v) false false }) ∧
    exec (Instr.ofForm (.alu .ora src)) s = .next (ended (.alu .ora src) false (s.pc + sourceLength src)
      { s with a := s.a ||| v, flags := resultFlags (s.a ||| v) false false })

/-- CMP and CPI: the flags of the subtraction, A unchanged; Z iff equal, CY iff A is less, AC the borrow out of bit 3
(decision D8; log entry 5). -/
def Obligations.CompareWritesFlagsOnly : Prop :=
  ∀ (src : Src) (s : State),
    let v := s.source src
    exec (Instr.ofForm (.alu .cmp src)) s = .next (ended (.alu .cmp src) false (s.pc + sourceLength src) { s with
      flags := {
        z := decide (s.a = v)
        s := decide (128 ≤ (s.a - v).toNat)
        p := evenOnes (s.a - v)
        cy := decide (s.a.toNat < v.toNat)
        ac := decide (s.a.toNat % 16 < v.toNat % 16) } })

/-! ## Increment, decrement, 16-bit add -/

/-- INR of a register and of M: plus one, Z S P from the result, CY kept, AC the carry out of bit 3 (AC: decision D11; log
entry 5). -/
def Obligations.IncrementKeepsCarry : Prop :=
  (∀ (r : Reg) (s : State), ∃ t, exec (Instr.ofForm (.inrReg r)) s = .next t ∧
    t.reg r = s.reg r + 1#8 ∧ RegsBut [r] s t ∧ t.mem = s.mem ∧ t.sp = s.sp ∧ t.pc = s.pc + 1#16 ∧
    t.flags = resultFlags (s.reg r + 1#8) s.flags.cy (decide ((s.reg r).toNat % 16 = 15))) ∧
  ∀ s : State, ∃ t, exec .inrM s = .next t ∧
    t.readByte s.hl = s.readByte s.hl + 1#8 ∧ RegsBut [] s t ∧ MemBut [s.hl] s t ∧ t.sp = s.sp ∧
    t.pc = s.pc + 1#16 ∧
    t.flags = resultFlags (s.readByte s.hl + 1#8) s.flags.cy (decide ((s.readByte s.hl).toNat % 16 = 15))

/-- DCR of a register and of M: minus one, Z S P from the result, CY kept, AC the borrow out of bit 3 (AC: decision D11; log
entry 5). -/
def Obligations.DecrementKeepsCarry : Prop :=
  (∀ (r : Reg) (s : State), ∃ t, exec (Instr.ofForm (.dcrReg r)) s = .next t ∧
    t.reg r = s.reg r - 1#8 ∧ RegsBut [r] s t ∧ t.mem = s.mem ∧ t.sp = s.sp ∧ t.pc = s.pc + 1#16 ∧
    t.flags = resultFlags (s.reg r - 1#8) s.flags.cy (decide ((s.reg r).toNat % 16 = 0))) ∧
  ∀ s : State, ∃ t, exec .dcrM s = .next t ∧
    t.readByte s.hl = s.readByte s.hl - 1#8 ∧ RegsBut [] s t ∧ MemBut [s.hl] s t ∧ t.sp = s.sp ∧
    t.pc = s.pc + 1#16 ∧
    t.flags = resultFlags (s.readByte s.hl - 1#8) s.flags.cy (decide ((s.readByte s.hl).toNat % 16 = 0))

/-- INR then DCR, and DCR then INR, on one register restore every register and CY (the property DOC gives; M likewise). -/
def Obligations.IncrementAndDecrementUndoEachOther : Prop :=
  (∀ (r : Reg) (s : State), ∃ t u, exec (Instr.ofForm (.inrReg r)) s = .next t ∧
    exec (Instr.ofForm (.dcrReg r)) t = .next u ∧ (∀ q, u.reg q = s.reg q) ∧ u.flags.cy = s.flags.cy) ∧
  (∀ (r : Reg) (s : State), ∃ t u, exec (Instr.ofForm (.dcrReg r)) s = .next t ∧
    exec (Instr.ofForm (.inrReg r)) t = .next u ∧ (∀ q, u.reg q = s.reg q) ∧ u.flags.cy = s.flags.cy) ∧
  (∀ s : State, ∃ t u, exec .inrM s = .next t ∧ exec .dcrM t = .next u ∧
    (∀ addr, u.readByte addr = s.readByte addr) ∧ u.flags.cy = s.flags.cy) ∧
  ∀ s : State, ∃ t u, exec .dcrM s = .next t ∧ exec .inrM t = .next u ∧
    (∀ addr, u.readByte addr = s.readByte addr) ∧ u.flags.cy = s.flags.cy

/-- INX and DCX of BC, DE, HL and SP: plus or minus one modulo 65536, no flag, nothing else (R139, R140). -/
def Obligations.PairStepWritesNoFlag : Prop :=
  ∀ (p : Pair) (s : State),
    (∃ t, exec (Instr.ofForm (.inx p)) s = .next t ∧ (t.pair p).toNat = ((s.pair p).toNat + 1) % 65536 ∧
      RegsBut (pairRegs p) s t ∧ (p ≠ .sp → t.sp = s.sp) ∧ t.flags = s.flags ∧ t.mem = s.mem ∧
      t.pc = s.pc + 1#16) ∧
    ∃ t, exec (Instr.ofForm (.dcx p)) s = .next t ∧ (t.pair p).toNat = ((s.pair p).toNat + 65535) % 65536 ∧
      RegsBut (pairRegs p) s t ∧ (p ≠ .sp → t.sp = s.sp) ∧ t.flags = s.flags ∧ t.mem = s.mem ∧
      t.pc = s.pc + 1#16

/-- DAD of BC, DE, HL and SP: HL gets the sum modulo 65536, CY the carry out of bit 15, the other flags and everything
else stay (R141). -/
def Obligations.DadWritesHlAndCarry : Prop :=
  ∀ (p : Pair) (s : State),
    let total := (s.pair .hl).toNat + (s.pair p).toNat
    ∃ t, exec (Instr.ofForm (.dad p)) s = .next t ∧ (t.pair .hl).toNat = total % 65536 ∧
      t.flags = { s.flags with cy := decide (total > 65535) } ∧ RegsBut [.h, .l] s t ∧ t.sp = s.sp ∧
      t.mem = s.mem ∧ t.pc = s.pc + 1#16

/-! ## Data movement -/

/-- MOV between registers, from M and to M: one byte copied, the source and everything else kept, no flag (R150 to
R152). -/
def Obligations.MovCopiesOneByte : Prop :=
  (∀ (r q : Reg) (s : State), ∃ t, exec (Instr.ofForm (.movRegReg r q)) s = .next t ∧
    t.reg r = s.reg q ∧ Moved [r] [] (s.pc + 1#16) s t) ∧
  (∀ (r : Reg) (s : State), ∃ t, exec (Instr.ofForm (.movRegM r)) s = .next t ∧
    t.reg r = s.readByte (joinBytes s.h s.l) ∧ Moved [r] [] (s.pc + 1#16) s t) ∧
  ∀ (r : Reg) (s : State), ∃ t, exec (Instr.ofForm (.movMReg r)) s = .next t ∧
    t.readByte (joinBytes s.h s.l) = s.reg r ∧ Moved [] [joinBytes s.h s.l] (s.pc + 1#16) s t

/-- MVI to a register and to M: the immediate byte, PC by 2, nothing else (R153, R154). -/
def Obligations.MviLoadsTheImmediate : Prop :=
  (∀ (r : Reg) (v : Byte) (s : State), ∃ t, exec (Instr.ofForm (.mviReg r v)) s = .next t ∧
    t.reg r = v ∧ Moved [r] [] (s.pc + 2#16) s t) ∧
  ∀ (v : Byte) (s : State), ∃ t, exec (.mviM v) s = .next t ∧
    t.readByte (joinBytes s.h s.l) = v ∧ Moved [] [joinBytes s.h s.l] (s.pc + 2#16) s t

/-- LXI: byte 3 to the high half, byte 2 to the low half, or both to SP; PC by 3, no flag. The byte order is decision D2
(log entry 5). -/
def Obligations.LxiLoadsByteThreeHigh : Prop :=
  ∀ (b2 b3 : Byte) (s : State),
    exec (.lxiB (joinBytes b3 b2)) s =
      .next (ended (.lxi .bc (joinBytes b3 b2)) false (s.pc + 3#16) { s with b := b3, c := b2 }) ∧
    exec (.lxiD (joinBytes b3 b2)) s =
      .next (ended (.lxi .de (joinBytes b3 b2)) false (s.pc + 3#16) { s with d := b3, e := b2 }) ∧
    exec (.lxiH (joinBytes b3 b2)) s =
      .next (ended (.lxi .hl (joinBytes b3 b2)) false (s.pc + 3#16) { s with h := b3, l := b2 }) ∧
    exec (.lxiSp (joinBytes b3 b2)) s =
      .next (ended (.lxi .sp (joinBytes b3 b2)) false (s.pc + 3#16) { s with sp := joinBytes b3 b2 })

/-- LDA, STA, LDAX and STAX: A from or to the byte addressed, the pair and everything else kept, no flag (R156 to
R159). -/
def Obligations.AccumulatorLoadsAndStores : Prop :=
  ∀ (s : State),
    (∀ a16, ∃ t, exec (.lda a16) s = .next t ∧ t.a = s.readByte a16 ∧ Moved [.a] [] (s.pc + 3#16) s t) ∧
    (∀ a16, ∃ t, exec (.sta a16) s = .next t ∧ t.readByte a16 = s.a ∧ Moved [] [a16] (s.pc + 3#16) s t) ∧
    (∃ t, exec .ldaxB s = .next t ∧ t.a = s.readByte (joinBytes s.b s.c) ∧ Moved [.a] [] (s.pc + 1#16) s t) ∧
    (∃ t, exec .ldaxD s = .next t ∧ t.a = s.readByte (joinBytes s.d s.e) ∧ Moved [.a] [] (s.pc + 1#16) s t) ∧
    (∃ t, exec .staxB s = .next t ∧ t.readByte (joinBytes s.b s.c) = s.a ∧
      Moved [] [joinBytes s.b s.c] (s.pc + 1#16) s t) ∧
    ∃ t, exec .staxD s = .next t ∧ t.readByte (joinBytes s.d s.e) = s.a ∧
      Moved [] [joinBytes s.d s.e] (s.pc + 1#16) s t

/-- LHLD and SHLD: L with the byte at the address, H with the byte at the address plus one modulo 65536 ("low byte first"),
no flag, nothing else (R160, R161). -/
def Obligations.HlLoadsAndStoresLowByteFirst : Prop :=
  ∀ (a16 : Word) (s : State),
    (∃ t, exec (.lhld a16) s = .next t ∧ t.l = s.readByte a16 ∧ t.h = s.readByte (a16 + 1#16) ∧
      Moved [.h, .l] [] (s.pc + 3#16) s t) ∧
    ∃ t, exec (.shld a16) s = .next t ∧ t.readByte a16 = s.l ∧ t.readByte (a16 + 1#16) = s.h ∧
      Moved [] [a16, a16 + 1#16] (s.pc + 3#16) s t

/-- SHLD then LHLD of one address restores HL whatever happened to HL in between, at every address, 0xFFFF too. -/
def Obligations.LhldReadsBackShld : Prop :=
  ∀ (a16 : Word) (s : State) (h l : Byte), ∃ t u, exec (.shld a16) s = .next t ∧
    exec (.lhld a16) { t with h := h, l := l } = .next u ∧ ∀ r, u.reg r = s.reg r

/-! ## Stack -/

/-- PUSH and POP of BC, DE and HL: the high half at SP - 1 and the low half at SP - 2 (which half goes first is decision D3;
log entry 5), SP by 2, no flag, nothing else. -/
def Obligations.PushAndPopMoveAPair : Prop :=
  ∀ (p : StackPair) (s : State),
    (∃ t, exec (Instr.ofForm (.push p)) s = .next t ∧
      t.readByte (s.sp - 1#16) = hiByte (s.pair p.toPair) ∧ t.readByte (s.sp - 2#16) = loByte (s.pair p.toPair) ∧
      t.sp = s.sp - 2#16 ∧ RegsBut [] s t ∧ MemBut [s.sp - 1#16, s.sp - 2#16] s t ∧ t.flags = s.flags ∧
      t.pc = s.pc + 1#16) ∧
    ∃ t, exec (Instr.ofForm (.pop p)) s = .next t ∧
      t.pair p.toPair = joinBytes (s.readByte (s.sp + 1#16)) (s.readByte s.sp) ∧ t.sp = s.sp + 2#16 ∧
      RegsBut (pairRegs p.toPair) s t ∧ t.mem = s.mem ∧ t.flags = s.flags ∧ t.pc = s.pc + 1#16

/-- PUSH of a pair, then POP into it after any other change of the pair, restores the pair and SP, at every SP, the
wrapping ones too (the property DOC gives). -/
def Obligations.PopReadsBackPush : Prop :=
  ∀ (p : StackPair) (s : State) (v : Word), ∃ t u, exec (Instr.ofForm (.push p)) s = .next t ∧
    exec (Instr.ofForm (.pop p)) (t.setPair p.toPair v) = .next u ∧
    (∀ r, u.reg r = s.reg r) ∧ u.sp = s.sp ∧ u.flags = s.flags

/-- PUSH PSW stores A at SP - 1 and the flag byte {S, Z, 0, AC, 0, P, 1, CY} at SP - 2; POP PSW takes A and the five flags
from there and ignores bits 5, 3 and 1. The layout is decision D4, the byte order D3 (log entry 5). -/
def Obligations.PswLayout : Prop :=
  ∀ s : State,
    (∃ t, exec .pushPsw s = .next t ∧ t.readByte (s.sp - 1#16) = s.a ∧
      (t.readByte (s.sp - 2#16)).toNat =
        128 * s.flags.s.toNat + 64 * s.flags.z.toNat + 16 * s.flags.ac.toNat + 4 * s.flags.p.toNat + 2 +
          s.flags.cy.toNat ∧
      t.sp = s.sp - 2#16 ∧ RegsBut [] s t ∧ MemBut [s.sp - 1#16, s.sp - 2#16] s t ∧ t.flags = s.flags ∧
      t.pc = s.pc + 1#16) ∧
    ∃ t, exec .popPsw s = .next t ∧ t.a = s.readByte (s.sp + 1#16) ∧
      t.flags = {
        s := (s.readByte s.sp).getLsbD 7
        z := (s.readByte s.sp).getLsbD 6
        ac := (s.readByte s.sp).getLsbD 4
        p := (s.readByte s.sp).getLsbD 2
        cy := (s.readByte s.sp).getLsbD 0 } ∧
      t.sp = s.sp + 2#16 ∧ RegsBut [.a] s t ∧ t.mem = s.mem ∧ t.pc = s.pc + 1#16

/-- PUSH PSW, then POP PSW after any change of A and the flags, restores A, all five flags and SP. -/
def Obligations.PopPswReadsBackPushPsw : Prop :=
  ∀ (s : State) (v : Byte) (f : Flags), ∃ t u, exec .pushPsw s = .next t ∧
    exec .popPsw { t with a := v, flags := f } = .next u ∧
    (∀ r, u.reg r = s.reg r) ∧ u.flags = s.flags ∧ u.sp = s.sp

/-! ## Control transfer -/

/-- The table of rule R180 serves Jcc, Ccc and Rcc alike, on the flags at the start of the instruction: a jump and a call go
to their target, and a return pops, exactly when the tested flag has the value the table gives; else PC goes past the
instruction and SP stays. -/
def Obligations.ConditionalFormsFollowOneTable : Prop :=
  ∀ (cond : Cond) (a16 : Word) (s : State), ∃ t u v,
    exec (Instr.ofForm (.jcc cond a16)) s = .next t ∧ exec (Instr.ofForm (.ccc cond a16)) s = .next u ∧
    exec (Instr.ofForm (.rcc cond)) s = .next v ∧
    (condition s.flags cond → t.pc = a16 ∧ u.pc = a16 ∧ u.sp = s.sp - 2#16 ∧ v.sp = s.sp + 2#16) ∧
    (¬ condition s.flags cond →
      t.pc = s.pc + 3#16 ∧ u.pc = s.pc + 3#16 ∧ u.sp = s.sp ∧ v.pc = s.pc + 1#16 ∧ v.sp = s.sp)

/-- JMP and Jcc: PC is the target, for Jcc when its condition in the table of R180 is true and otherwise PC + 3; no flag,
nothing else (R180, R182, R183). -/
def Obligations.JumpsGoToTheirTarget : Prop :=
  ∀ (a16 : Word) (s : State),
    exec (.jmp a16) s = .next (ended (.jmp a16) false a16 s) ∧
    ∀ cond : Cond,
      (condition s.flags cond → exec (Instr.ofForm (.jcc cond a16)) s = .next (ended (.jcc cond a16) true a16 s)) ∧
      (¬ condition s.flags cond →
        exec (Instr.ofForm (.jcc cond a16)) s = .next (ended (.jcc cond a16) false (s.pc + 3#16) s))

/-- CALL and a taken Ccc push PC + 3 (high half at SP - 1, low half at SP - 2: decision D3, log entry 5) and go to the target
held by the instruction; a Ccc whose condition is false changes PC only. -/
def Obligations.CallsPushTheNextAddress : Prop :=
  ∀ (a16 : Word) (s : State),
    let pushed (t : State) : Prop :=
      t.readByte (s.sp - 1#16) = hiByte (s.pc + 3#16) ∧ t.readByte (s.sp - 2#16) = loByte (s.pc + 3#16) ∧
      t.sp = s.sp - 2#16 ∧ t.pc = a16 ∧ RegsBut [] s t ∧ MemBut [s.sp - 1#16, s.sp - 2#16] s t ∧
      t.flags = s.flags
    (∃ t, exec (.call a16) s = .next t ∧ pushed t) ∧
    ∀ cond : Cond,
      (condition s.flags cond → ∃ t, exec (Instr.ofForm (.ccc cond a16)) s = .next t ∧ pushed t) ∧
      (¬ condition s.flags cond →
        exec (Instr.ofForm (.ccc cond a16)) s = .next (ended (.ccc cond a16) false (s.pc + 3#16) s))

/-- RET and a taken Rcc go to the word at SP (low byte at SP: decision D3, log entry 5) and add 2 to SP; an Rcc whose
condition is false changes PC only. -/
def Obligations.ReturnsPopTheirTarget : Prop :=
  ∀ s : State,
    let target := joinBytes (s.readByte (s.sp + 1#16)) (s.readByte s.sp)
    exec .ret s = .next (ended .ret false target { s with sp := s.sp + 2#16 }) ∧
    ∀ cond : Cond,
      (condition s.flags cond →
        exec (Instr.ofForm (.rcc cond)) s = .next (ended (.rcc cond) true target { s with sp := s.sp + 2#16 })) ∧
      (¬ condition s.flags cond →
        exec (Instr.ofForm (.rcc cond)) s = .next (ended (.rcc cond) false (s.pc + 1#16) s))

/-- CALL followed by RET comes back: PC is the address after the CALL, SP, registers and flags are as before it (the property
DOC gives). -/
def Obligations.ReturnUndoesCall : Prop :=
  ∀ (a16 : Word) (s : State), ∃ t u, exec (.call a16) s = .next t ∧ exec .ret t = .next u ∧
    u.pc = s.pc + 3#16 ∧ u.sp = s.sp ∧ (∀ r, u.reg r = s.reg r) ∧ u.flags = s.flags

/-! ## Rotates, carry, exchange -/

/-- The four rotates as numbers: the bit rotated out to CY, the other flags kept. The bit paths are decision D10 (log
entry 5). -/
def Obligations.RotatesMoveOneBit : Prop :=
  ∀ s : State,
    let top := decide (128 ≤ s.a.toNat)
    let bottom := decide (s.a.toNat % 2 = 1)
    exec .rlc s = .next (ended .rlc false (s.pc + 1#16) { s with
      a := BitVec.ofNat 8 (s.a.toNat * 2 % 256 + top.toNat), flags := { s.flags with cy := top } }) ∧
    exec .rrc s = .next (ended .rrc false (s.pc + 1#16) { s with
      a := BitVec.ofNat 8 (s.a.toNat / 2 + bottom.toNat * 128), flags := { s.flags with cy := bottom } }) ∧
    exec .ral s = .next (ended .ral false (s.pc + 1#16) { s with
      a := BitVec.ofNat 8 (s.a.toNat * 2 % 256 + s.flags.cy.toNat), flags := { s.flags with cy := top } }) ∧
    exec .rar s = .next (ended .rar false (s.pc + 1#16) { s with
      a := BitVec.ofNat 8 (s.a.toNat / 2 + s.flags.cy.toNat * 128), flags := { s.flags with cy := bottom } })

/-- Eight RLCs restore A; eight RRCs restore A; nine RALs and nine RARs restore A and CY (the bit paths are decision D10; log
entry 5). -/
def Obligations.RotatesComeRound : Prop :=
  ∀ s : State,
    (∃ t, repeated .rlc 8 s = some t ∧ t.a = s.a) ∧
    (∃ t, repeated .rrc 8 s = some t ∧ t.a = s.a) ∧
    (∃ t, repeated .ral 9 s = some t ∧ t.a = s.a ∧ t.flags = s.flags) ∧
    ∃ t, repeated .rar 9 s = some t ∧ t.a = s.a ∧ t.flags = s.flags

/-- CMA is 255 - A and no flag; STC sets and CMC complements CY and no other flag (that no other flag is written is decision
D10; log entry 5). -/
def Obligations.ComplementAndCarry : Prop :=
  ∀ s : State,
    exec .cma s = .next (ended .cma false (s.pc + 1#16) { s with a := BitVec.ofNat 8 (255 - s.a.toNat) }) ∧
    exec .stc s = .next (ended .stc false (s.pc + 1#16) { s with flags := { s.flags with cy := true } }) ∧
    exec .cmc s = .next (ended .cmc false (s.pc + 1#16) { s with flags := { s.flags with cy := !s.flags.cy } })

/-- XCHG swaps HL and DE; PCHL copies HL into PC, which is not advanced; SPHL copies HL into SP and PC advances by 1; no
flag, nothing else (R210, R212, R213). -/
def Obligations.PairExchanges : Prop :=
  ∀ s : State,
    exec .xchg s = .next (ended .xchg false (s.pc + 1#16) { s with h := s.d, l := s.e, d := s.h, e := s.l }) ∧
    exec .pchl s = .next (ended .pchl false (joinBytes s.h s.l) s) ∧
    exec .sphl s = .next (ended .sphl false (s.pc + 1#16) { s with sp := joinBytes s.h s.l })

/-- XTHL exchanges L with the byte at SP and H with the byte at SP + 1 modulo 65536 (which half is at SP: decision D3, log
entry 5); SP, flags and everything else stay. -/
def Obligations.XthlExchangesHlWithTheTop : Prop :=
  ∀ s : State, ∃ t, exec .xthl s = .next t ∧
    t.l = s.readByte s.sp ∧ t.h = s.readByte (s.sp + 1#16) ∧
    t.readByte s.sp = s.l ∧ t.readByte (s.sp + 1#16) = s.h ∧
    Moved [.h, .l] [s.sp, s.sp + 1#16] (s.pc + 1#16) s t

/-- Two XCHGs, and two XTHLs, restore every register and every byte of memory. -/
def Obligations.ExchangesUndoThemselves : Prop :=
  ∀ s : State,
    (∃ t, repeated .xchg 2 s = some t ∧ (∀ r, t.reg r = s.reg r) ∧ t.mem = s.mem ∧ t.sp = s.sp) ∧
    ∃ t, repeated .xthl 2 s = some t ∧ (∀ r, t.reg r = s.reg r) ∧
      (∀ addr, t.readByte addr = s.readByte addr) ∧ t.sp = s.sp

/-! ## DAA, no-operations, unimplemented and unknown bytes -/

/-- DAA by the two corrections of rule R220: A, Z S P from the result, AC the carry out of bit 3 of the correction, CY set
with the high correction and otherwise kept. All details beyond the two tests are decision D9 (log entry 5). -/
def Obligations.DaaCorrectsBothNibbles : Prop :=
  ∀ s : State,
    let lo := s.a.toNat % 16
    let hi := s.a.toNat / 16
    let low := 9 < lo ∨ s.flags.ac = true
    let high := 9 < hi ∨ s.flags.cy = true ∨ (9 ≤ hi ∧ 9 < lo)
    let corr := (if low then 6 else 0) + (if high then 96 else 0)
    let r := BitVec.ofNat 8 (s.a.toNat + corr)
    exec .daa s = .next (ended .daa false (s.pc + 1#16) { s with
      a := r, flags := resultFlags r (decide (high ∨ s.flags.cy = true)) (decide (15 < lo + corr % 16)) })

/-- The two formulations of DAA in rule R220 give the same A, CY and AC for every A, CY and AC (decision D9; log entry 5). -/
def Obligations.DaaAgreesWithItsSequentialReading : Prop :=
  ∀ s : State, ∃ t, exec .daa s = .next t ∧
    (t.a, t.flags.cy, t.flags.ac) = daaInTwoSteps s.a s.flags.cy s.flags.ac

/-- DAA after adding two packed-BCD bytes, with or without a carry in, leaves the packed-BCD sum and the decimal carry (the
reason decision D9 gives; log entry 5). -/
def Obligations.DaaAfterAdditionIsTheDecimalSum : Prop :=
  ∀ s : State, isDecimal s.a → isDecimal s.b →
    ∃ t u, exec .adcB s = .next t ∧ exec .daa t = .next u ∧ isDecimal u.a ∧
      decimal s.a + decimal s.b + s.flags.cy.toNat = decimal u.a + 100 * u.flags.cy.toNat

/-- NOP changes nothing but PC, and each duplicate goes to the very state NOP goes to, with NOP's cycle cost whatever the
parameter CYCLES holds (R221, R222; which bytes the duplicates are is decision D6, log entry 5). -/
def Obligations.NopChangesOnlyPc : Prop :=
  ∀ s : State,
    exec .nop s = .next (ended .nop false (s.pc + 1#16) s) ∧
    ∀ k, exec (Instr.ofForm (.nopDup k)) s = .next (ended .nop false (s.pc + 1#16) s)

/-- HLT, RST 0 to 7, IN, OUT, EI and DI change nothing but PC: HLT does not halt, RST pushes nothing and goes nowhere, IN
leaves A. Their lengths are decision D19 (log entry 5). -/
def Obligations.UnimplementedChangeOnlyPc : Prop :=
  ∀ s : State,
    exec .hlt s = .next (ended .hlt false (s.pc + 1#16) s) ∧
    (∀ n, exec (Instr.ofForm (.rst n)) s = .next (ended (.rst n) false (s.pc + 1#16) s)) ∧
    (∀ v, exec (.inPort v) s = .next (ended (.inPort v) false (s.pc + 2#16) s)) ∧
    (∀ v, exec (.outPort v) s = .next (ended (.outPort v) false (s.pc + 2#16) s)) ∧
    exec .ei s = .next (ended .ei false (s.pc + 1#16) s) ∧
    exec .di s = .next (ended .di false (s.pc + 1#16) s)

/-- Each of the five unknown bytes reports its address and value, costs 0 cycles and is skipped as one byte; no register,
flag, SP or memory byte changes. That all five behave so is decision D7, the report's contents D13 (log entries 1, 2,
5). -/
def Obligations.UnknownByteIsReportedAndSkipped : Prop :=
  ∀ (k : Fin 5) (s : State),
    exec (Instr.ofForm (.unknown k)) s = .next { s with
      pc := s.pc + 1#16
      cycles := 0#8
      report := some { addr := s.pc, op := [0xCB#8, 0xD9#8, 0xDD#8, 0xED#8, 0xFD#8][k] }
      decodeErrorSeen := true }

/-! ## The host and the end of a run -/

/-- What the host can do at a step boundary: a write is read back at its address, every other byte and the whole dump keep
their values, and the mark and the outputs too (the boundary is decision D15, the dump's contents D18; log entry 9). -/
def Obligations.HostWriteChangesOneByte : Prop :=
  ∀ (s : State) (addr : Word) (v : Byte),
    (s.hostWrite addr v).hostRead addr = v ∧
    (∀ other, other ≠ addr → (s.hostWrite addr v).hostRead other = s.hostRead other) ∧
    (s.hostWrite addr v).dump = s.dump ∧
    { s.hostWrite addr v with mem := s.mem } = s

/-- The end of a run by the convention of rule R274 (decision D16, log entry 11): a run that ends, ends by an executed HLT,
whose address is the final PC minus 1 and which is still in memory, and every byte and register is as that HLT found
them. -/
def Obligations.RunEndsJustAfterHlt : Prop :=
  ∀ (n : Nat) (s t : State), runToHlt n s = some t →
    ∃ u, Steps s u ∧ u.readByte u.pc = 0x76#8 ∧ t.pc = u.pc + 1#16 ∧ t.mem = u.mem ∧
      (∀ r, t.reg r = u.reg r) ∧ t.flags = u.flags ∧ t.sp = u.sp
end

