-- ==== Sys2Proof/Laws/Bytes.lean ====
section
/-! SUPPORT. Bytes of a word: joining and splitting are inverse (R5, R11). Bytes beyond an instruction's length do not
matter to what is decoded (R71). -/

namespace Sys2Proof

@[simp] theorem hiByte_joinBytes (hi lo : Byte) : hiByte (joinBytes hi lo) = hi := by
  unfold hiByte joinBytes
  ext k hk
  simp only [BitVec.getElem_extractLsb']
  rw [BitVec.getLsbD_append]
  simp [hk]

@[simp] theorem loByte_joinBytes (hi lo : Byte) : loByte (joinBytes hi lo) = lo := by
  unfold loByte joinBytes
  ext k hk
  simp only [BitVec.getElem_extractLsb']
  rw [BitVec.getLsbD_append]
  simp [hk]

@[simp] theorem joinBytes_hi_lo (w : Word) : joinBytes (hiByte w) (loByte w) = w := by
  unfold joinBytes hiByte loByte
  ext k hk
  simp only [BitVec.getElem_append]
  split <;> simp <;> grind

/-- Two words are equal when both their bytes are. -/
theorem word_eq_of_bytes {v w : Word} (hh : hiByte v = hiByte w) (hl : loByte v = loByte w) : v = w := by
  rw [← joinBytes_hi_lo v, ← joinBytes_hi_lo w, hh, hl]

/-- Every byte is one of 256: the way to check a fact about first bytes by going through them. -/
theorem byte_cases {P : Byte → Prop} (h : ∀ n, n < 256 → P (BitVec.ofNat 8 n)) (op : Byte) : P op := by
  have h' := h op.toNat op.isLt
  rwa [BitVec.ofNat_toNat, BitVec.setWidth_eq] at h'

/-- A one-byte instruction does not depend on the bytes after it. -/
theorem instrOf_length_one {op : Byte} (h : lengthOf op = 1) (b2 b3 : Byte) :
    instrOf op b2 b3 = instrOf op 0#8 0#8 := by
  revert h
  refine byte_cases (P := fun op => lengthOf op = 1 → instrOf op b2 b3 = instrOf op 0#8 0#8) (fun n hn => ?_) op
  interval_cases n <;> first | (intro _; rfl) | (intro h; exact absurd h (by decide))

/-- A two-byte instruction does not depend on the third byte. -/
theorem instrOf_length_two {op : Byte} (h : lengthOf op = 2) (b2 b3 : Byte) :
    instrOf op b2 b3 = instrOf op b2 0#8 := by
  revert h
  refine byte_cases (P := fun op => lengthOf op = 2 → instrOf op b2 b3 = instrOf op b2 0#8) (fun n hn => ?_) op
  interval_cases n <;> first | (intro _; rfl) | (intro h; exact absurd h (by decide))

end Sys2Proof
end

