-- ==== Sys2Proof/Laws/State.lean ====
section
/-! SUPPORT. One lemma per field per update of State, so that no proof unfolds a record update. -/

namespace Sys2Proof.Machine

/-! ### writeByte -/

@[simp] theorem State.writeByte_a (s : State) (addr : Word) (v : Byte) : (s.writeByte addr v).a = s.a := rfl
@[simp] theorem State.writeByte_b (s : State) (addr : Word) (v : Byte) : (s.writeByte addr v).b = s.b := rfl
@[simp] theorem State.writeByte_c (s : State) (addr : Word) (v : Byte) : (s.writeByte addr v).c = s.c := rfl
@[simp] theorem State.writeByte_d (s : State) (addr : Word) (v : Byte) : (s.writeByte addr v).d = s.d := rfl
@[simp] theorem State.writeByte_e (s : State) (addr : Word) (v : Byte) : (s.writeByte addr v).e = s.e := rfl
@[simp] theorem State.writeByte_h (s : State) (addr : Word) (v : Byte) : (s.writeByte addr v).h = s.h := rfl
@[simp] theorem State.writeByte_l (s : State) (addr : Word) (v : Byte) : (s.writeByte addr v).l = s.l := rfl
@[simp] theorem State.writeByte_flags (s : State) (addr : Word) (v : Byte) : (s.writeByte addr v).flags = s.flags := rfl
@[simp] theorem State.writeByte_sp (s : State) (addr : Word) (v : Byte) : (s.writeByte addr v).sp = s.sp := rfl
@[simp] theorem State.writeByte_pc (s : State) (addr : Word) (v : Byte) : (s.writeByte addr v).pc = s.pc := rfl
@[simp] theorem State.writeByte_mem (s : State) (addr : Word) (v : Byte) : (s.writeByte addr v).mem = s.mem.write addr v := rfl
@[simp] theorem State.writeByte_cycles (s : State) (addr : Word) (v : Byte) : (s.writeByte addr v).cycles = s.cycles := rfl
@[simp] theorem State.writeByte_report (s : State) (addr : Word) (v : Byte) : (s.writeByte addr v).report = s.report := rfl
@[simp] theorem State.writeByte_decodeErrorSeen (s : State) (addr : Word) (v : Byte) : (s.writeByte addr v).decodeErrorSeen = s.decodeErrorSeen := rfl
@[simp] theorem State.writeByte_cyclesParam (s : State) (addr : Word) (v : Byte) : (s.writeByte addr v).cyclesParam = s.cyclesParam := rfl

/-! ### setA -/

@[simp] theorem State.setA_a (s : State) (v : Byte) : (s.setA v).a = v := rfl
@[simp] theorem State.setA_b (s : State) (v : Byte) : (s.setA v).b = s.b := rfl
@[simp] theorem State.setA_c (s : State) (v : Byte) : (s.setA v).c = s.c := rfl
@[simp] theorem State.setA_d (s : State) (v : Byte) : (s.setA v).d = s.d := rfl
@[simp] theorem State.setA_e (s : State) (v : Byte) : (s.setA v).e = s.e := rfl
@[simp] theorem State.setA_h (s : State) (v : Byte) : (s.setA v).h = s.h := rfl
@[simp] theorem State.setA_l (s : State) (v : Byte) : (s.setA v).l = s.l := rfl
@[simp] theorem State.setA_flags (s : State) (v : Byte) : (s.setA v).flags = s.flags := rfl
@[simp] theorem State.setA_sp (s : State) (v : Byte) : (s.setA v).sp = s.sp := rfl
@[simp] theorem State.setA_pc (s : State) (v : Byte) : (s.setA v).pc = s.pc := rfl
@[simp] theorem State.setA_mem (s : State) (v : Byte) : (s.setA v).mem = s.mem := rfl
@[simp] theorem State.setA_cycles (s : State) (v : Byte) : (s.setA v).cycles = s.cycles := rfl
@[simp] theorem State.setA_report (s : State) (v : Byte) : (s.setA v).report = s.report := rfl
@[simp] theorem State.setA_decodeErrorSeen (s : State) (v : Byte) : (s.setA v).decodeErrorSeen = s.decodeErrorSeen := rfl
@[simp] theorem State.setA_cyclesParam (s : State) (v : Byte) : (s.setA v).cyclesParam = s.cyclesParam := rfl

/-! ### setHl -/

@[simp] theorem State.setHl_a (s : State) (v : Word) : (s.setHl v).a = s.a := rfl
@[simp] theorem State.setHl_b (s : State) (v : Word) : (s.setHl v).b = s.b := rfl
@[simp] theorem State.setHl_c (s : State) (v : Word) : (s.setHl v).c = s.c := rfl
@[simp] theorem State.setHl_d (s : State) (v : Word) : (s.setHl v).d = s.d := rfl
@[simp] theorem State.setHl_e (s : State) (v : Word) : (s.setHl v).e = s.e := rfl
@[simp] theorem State.setHl_h (s : State) (v : Word) : (s.setHl v).h = hiByte v := rfl
@[simp] theorem State.setHl_l (s : State) (v : Word) : (s.setHl v).l = loByte v := rfl
@[simp] theorem State.setHl_flags (s : State) (v : Word) : (s.setHl v).flags = s.flags := rfl
@[simp] theorem State.setHl_sp (s : State) (v : Word) : (s.setHl v).sp = s.sp := rfl
@[simp] theorem State.setHl_pc (s : State) (v : Word) : (s.setHl v).pc = s.pc := rfl
@[simp] theorem State.setHl_mem (s : State) (v : Word) : (s.setHl v).mem = s.mem := rfl
@[simp] theorem State.setHl_cycles (s : State) (v : Word) : (s.setHl v).cycles = s.cycles := rfl
@[simp] theorem State.setHl_report (s : State) (v : Word) : (s.setHl v).report = s.report := rfl
@[simp] theorem State.setHl_decodeErrorSeen (s : State) (v : Word) : (s.setHl v).decodeErrorSeen = s.decodeErrorSeen := rfl
@[simp] theorem State.setHl_cyclesParam (s : State) (v : Word) : (s.setHl v).cyclesParam = s.cyclesParam := rfl

/-! ### setSp -/

@[simp] theorem State.setSp_a (s : State) (v : Word) : (s.setSp v).a = s.a := rfl
@[simp] theorem State.setSp_b (s : State) (v : Word) : (s.setSp v).b = s.b := rfl
@[simp] theorem State.setSp_c (s : State) (v : Word) : (s.setSp v).c = s.c := rfl
@[simp] theorem State.setSp_d (s : State) (v : Word) : (s.setSp v).d = s.d := rfl
@[simp] theorem State.setSp_e (s : State) (v : Word) : (s.setSp v).e = s.e := rfl
@[simp] theorem State.setSp_h (s : State) (v : Word) : (s.setSp v).h = s.h := rfl
@[simp] theorem State.setSp_l (s : State) (v : Word) : (s.setSp v).l = s.l := rfl
@[simp] theorem State.setSp_flags (s : State) (v : Word) : (s.setSp v).flags = s.flags := rfl
@[simp] theorem State.setSp_sp (s : State) (v : Word) : (s.setSp v).sp = v := rfl
@[simp] theorem State.setSp_pc (s : State) (v : Word) : (s.setSp v).pc = s.pc := rfl
@[simp] theorem State.setSp_mem (s : State) (v : Word) : (s.setSp v).mem = s.mem := rfl
@[simp] theorem State.setSp_cycles (s : State) (v : Word) : (s.setSp v).cycles = s.cycles := rfl
@[simp] theorem State.setSp_report (s : State) (v : Word) : (s.setSp v).report = s.report := rfl
@[simp] theorem State.setSp_decodeErrorSeen (s : State) (v : Word) : (s.setSp v).decodeErrorSeen = s.decodeErrorSeen := rfl
@[simp] theorem State.setSp_cyclesParam (s : State) (v : Word) : (s.setSp v).cyclesParam = s.cyclesParam := rfl

/-! ### setPc -/

@[simp] theorem State.setPc_a (s : State) (v : Word) : (s.setPc v).a = s.a := rfl
@[simp] theorem State.setPc_b (s : State) (v : Word) : (s.setPc v).b = s.b := rfl
@[simp] theorem State.setPc_c (s : State) (v : Word) : (s.setPc v).c = s.c := rfl
@[simp] theorem State.setPc_d (s : State) (v : Word) : (s.setPc v).d = s.d := rfl
@[simp] theorem State.setPc_e (s : State) (v : Word) : (s.setPc v).e = s.e := rfl
@[simp] theorem State.setPc_h (s : State) (v : Word) : (s.setPc v).h = s.h := rfl
@[simp] theorem State.setPc_l (s : State) (v : Word) : (s.setPc v).l = s.l := rfl
@[simp] theorem State.setPc_flags (s : State) (v : Word) : (s.setPc v).flags = s.flags := rfl
@[simp] theorem State.setPc_sp (s : State) (v : Word) : (s.setPc v).sp = s.sp := rfl
@[simp] theorem State.setPc_pc (s : State) (v : Word) : (s.setPc v).pc = v := rfl
@[simp] theorem State.setPc_mem (s : State) (v : Word) : (s.setPc v).mem = s.mem := rfl
@[simp] theorem State.setPc_cycles (s : State) (v : Word) : (s.setPc v).cycles = s.cycles := rfl
@[simp] theorem State.setPc_report (s : State) (v : Word) : (s.setPc v).report = s.report := rfl
@[simp] theorem State.setPc_decodeErrorSeen (s : State) (v : Word) : (s.setPc v).decodeErrorSeen = s.decodeErrorSeen := rfl
@[simp] theorem State.setPc_cyclesParam (s : State) (v : Word) : (s.setPc v).cyclesParam = s.cyclesParam := rfl

/-! ### setFlags -/

@[simp] theorem State.setFlags_a (s : State) (f : Flags) : (s.setFlags f).a = s.a := rfl
@[simp] theorem State.setFlags_b (s : State) (f : Flags) : (s.setFlags f).b = s.b := rfl
@[simp] theorem State.setFlags_c (s : State) (f : Flags) : (s.setFlags f).c = s.c := rfl
@[simp] theorem State.setFlags_d (s : State) (f : Flags) : (s.setFlags f).d = s.d := rfl
@[simp] theorem State.setFlags_e (s : State) (f : Flags) : (s.setFlags f).e = s.e := rfl
@[simp] theorem State.setFlags_h (s : State) (f : Flags) : (s.setFlags f).h = s.h := rfl
@[simp] theorem State.setFlags_l (s : State) (f : Flags) : (s.setFlags f).l = s.l := rfl
@[simp] theorem State.setFlags_flags (s : State) (f : Flags) : (s.setFlags f).flags = f := rfl
@[simp] theorem State.setFlags_sp (s : State) (f : Flags) : (s.setFlags f).sp = s.sp := rfl
@[simp] theorem State.setFlags_pc (s : State) (f : Flags) : (s.setFlags f).pc = s.pc := rfl
@[simp] theorem State.setFlags_mem (s : State) (f : Flags) : (s.setFlags f).mem = s.mem := rfl
@[simp] theorem State.setFlags_cycles (s : State) (f : Flags) : (s.setFlags f).cycles = s.cycles := rfl
@[simp] theorem State.setFlags_report (s : State) (f : Flags) : (s.setFlags f).report = s.report := rfl
@[simp] theorem State.setFlags_decodeErrorSeen (s : State) (f : Flags) : (s.setFlags f).decodeErrorSeen = s.decodeErrorSeen := rfl
@[simp] theorem State.setFlags_cyclesParam (s : State) (f : Flags) : (s.setFlags f).cyclesParam = s.cyclesParam := rfl

/-! ### setCy -/

@[simp] theorem State.setCy_a (s : State) (v : Bool) : (s.setCy v).a = s.a := rfl
@[simp] theorem State.setCy_b (s : State) (v : Bool) : (s.setCy v).b = s.b := rfl
@[simp] theorem State.setCy_c (s : State) (v : Bool) : (s.setCy v).c = s.c := rfl
@[simp] theorem State.setCy_d (s : State) (v : Bool) : (s.setCy v).d = s.d := rfl
@[simp] theorem State.setCy_e (s : State) (v : Bool) : (s.setCy v).e = s.e := rfl
@[simp] theorem State.setCy_h (s : State) (v : Bool) : (s.setCy v).h = s.h := rfl
@[simp] theorem State.setCy_l (s : State) (v : Bool) : (s.setCy v).l = s.l := rfl
@[simp] theorem State.setCy_flags (s : State) (v : Bool) : (s.setCy v).flags = { s.flags with cy := v } := rfl
@[simp] theorem State.setCy_sp (s : State) (v : Bool) : (s.setCy v).sp = s.sp := rfl
@[simp] theorem State.setCy_pc (s : State) (v : Bool) : (s.setCy v).pc = s.pc := rfl
@[simp] theorem State.setCy_mem (s : State) (v : Bool) : (s.setCy v).mem = s.mem := rfl
@[simp] theorem State.setCy_cycles (s : State) (v : Bool) : (s.setCy v).cycles = s.cycles := rfl
@[simp] theorem State.setCy_report (s : State) (v : Bool) : (s.setCy v).report = s.report := rfl
@[simp] theorem State.setCy_decodeErrorSeen (s : State) (v : Bool) : (s.setCy v).decodeErrorSeen = s.decodeErrorSeen := rfl
@[simp] theorem State.setCy_cyclesParam (s : State) (v : Bool) : (s.setCy v).cyclesParam = s.cyclesParam := rfl

/-! ### setPsw -/

@[simp] theorem State.setPsw_a (s : State) (w : Word) : (s.setPsw w).a = hiByte w := rfl
@[simp] theorem State.setPsw_b (s : State) (w : Word) : (s.setPsw w).b = s.b := rfl
@[simp] theorem State.setPsw_c (s : State) (w : Word) : (s.setPsw w).c = s.c := rfl
@[simp] theorem State.setPsw_d (s : State) (w : Word) : (s.setPsw w).d = s.d := rfl
@[simp] theorem State.setPsw_e (s : State) (w : Word) : (s.setPsw w).e = s.e := rfl
@[simp] theorem State.setPsw_h (s : State) (w : Word) : (s.setPsw w).h = s.h := rfl
@[simp] theorem State.setPsw_l (s : State) (w : Word) : (s.setPsw w).l = s.l := rfl
@[simp] theorem State.setPsw_flags (s : State) (w : Word) : (s.setPsw w).flags = Flags.unpack (loByte w) := rfl
@[simp] theorem State.setPsw_sp (s : State) (w : Word) : (s.setPsw w).sp = s.sp := rfl
@[simp] theorem State.setPsw_pc (s : State) (w : Word) : (s.setPsw w).pc = s.pc := rfl
@[simp] theorem State.setPsw_mem (s : State) (w : Word) : (s.setPsw w).mem = s.mem := rfl
@[simp] theorem State.setPsw_cycles (s : State) (w : Word) : (s.setPsw w).cycles = s.cycles := rfl
@[simp] theorem State.setPsw_report (s : State) (w : Word) : (s.setPsw w).report = s.report := rfl
@[simp] theorem State.setPsw_decodeErrorSeen (s : State) (w : Word) : (s.setPsw w).decodeErrorSeen = s.decodeErrorSeen := rfl
@[simp] theorem State.setPsw_cyclesParam (s : State) (w : Word) : (s.setPsw w).cyclesParam = s.cyclesParam := rfl

/-! ### popped -/

@[simp] theorem State.popped_a (s : State) : s.popped.a = s.a := rfl
@[simp] theorem State.popped_b (s : State) : s.popped.b = s.b := rfl
@[simp] theorem State.popped_c (s : State) : s.popped.c = s.c := rfl
@[simp] theorem State.popped_d (s : State) : s.popped.d = s.d := rfl
@[simp] theorem State.popped_e (s : State) : s.popped.e = s.e := rfl
@[simp] theorem State.popped_h (s : State) : s.popped.h = s.h := rfl
@[simp] theorem State.popped_l (s : State) : s.popped.l = s.l := rfl
@[simp] theorem State.popped_flags (s : State) : s.popped.flags = s.flags := rfl
@[simp] theorem State.popped_sp (s : State) : s.popped.sp = s.sp + 2#16 := rfl
@[simp] theorem State.popped_pc (s : State) : s.popped.pc = s.pc := rfl
@[simp] theorem State.popped_mem (s : State) : s.popped.mem = s.mem := rfl
@[simp] theorem State.popped_cycles (s : State) : s.popped.cycles = s.cycles := rfl
@[simp] theorem State.popped_report (s : State) : s.popped.report = s.report := rfl
@[simp] theorem State.popped_decodeErrorSeen (s : State) : s.popped.decodeErrorSeen = s.decodeErrorSeen := rfl
@[simp] theorem State.popped_cyclesParam (s : State) : s.popped.cyclesParam = s.cyclesParam := rfl

/-! ### withCost -/

@[simp] theorem State.withCost_a (s : State) (i : Instr) (taken : Bool) : (s.withCost i taken).a = s.a := rfl
@[simp] theorem State.withCost_b (s : State) (i : Instr) (taken : Bool) : (s.withCost i taken).b = s.b := rfl
@[simp] theorem State.withCost_c (s : State) (i : Instr) (taken : Bool) : (s.withCost i taken).c = s.c := rfl
@[simp] theorem State.withCost_d (s : State) (i : Instr) (taken : Bool) : (s.withCost i taken).d = s.d := rfl
@[simp] theorem State.withCost_e (s : State) (i : Instr) (taken : Bool) : (s.withCost i taken).e = s.e := rfl
@[simp] theorem State.withCost_h (s : State) (i : Instr) (taken : Bool) : (s.withCost i taken).h = s.h := rfl
@[simp] theorem State.withCost_l (s : State) (i : Instr) (taken : Bool) : (s.withCost i taken).l = s.l := rfl
@[simp] theorem State.withCost_flags (s : State) (i : Instr) (taken : Bool) : (s.withCost i taken).flags = s.flags := rfl
@[simp] theorem State.withCost_sp (s : State) (i : Instr) (taken : Bool) : (s.withCost i taken).sp = s.sp := rfl
@[simp] theorem State.withCost_pc (s : State) (i : Instr) (taken : Bool) : (s.withCost i taken).pc = s.pc := rfl
@[simp] theorem State.withCost_mem (s : State) (i : Instr) (taken : Bool) : (s.withCost i taken).mem = s.mem := rfl
@[simp] theorem State.withCost_cycles (s : State) (i : Instr) (taken : Bool) : (s.withCost i taken).cycles = cyclesOf s.cyclesParam (opcode i) taken := rfl
@[simp] theorem State.withCost_report (s : State) (i : Instr) (taken : Bool) : (s.withCost i taken).report = none := rfl
@[simp] theorem State.withCost_decodeErrorSeen (s : State) (i : Instr) (taken : Bool) : (s.withCost i taken).decodeErrorSeen = s.decodeErrorSeen := rfl
@[simp] theorem State.withCost_cyclesParam (s : State) (i : Instr) (taken : Bool) : (s.withCost i taken).cyclesParam = s.cyclesParam := rfl

/-! ### push16 -/

@[simp] theorem State.push16_a (s : State) (v : Word) : (s.push16 v).a = s.a := rfl
@[simp] theorem State.push16_b (s : State) (v : Word) : (s.push16 v).b = s.b := rfl
@[simp] theorem State.push16_c (s : State) (v : Word) : (s.push16 v).c = s.c := rfl
@[simp] theorem State.push16_d (s : State) (v : Word) : (s.push16 v).d = s.d := rfl
@[simp] theorem State.push16_e (s : State) (v : Word) : (s.push16 v).e = s.e := rfl
@[simp] theorem State.push16_h (s : State) (v : Word) : (s.push16 v).h = s.h := rfl
@[simp] theorem State.push16_l (s : State) (v : Word) : (s.push16 v).l = s.l := rfl
@[simp] theorem State.push16_flags (s : State) (v : Word) : (s.push16 v).flags = s.flags := rfl
@[simp] theorem State.push16_sp (s : State) (v : Word) : (s.push16 v).sp = s.sp - 2#16 := rfl
@[simp] theorem State.push16_pc (s : State) (v : Word) : (s.push16 v).pc = s.pc := rfl
@[simp] theorem State.push16_mem (s : State) (v : Word) : (s.push16 v).mem = (s.mem.write (s.sp - 1#16) (hiByte v)).write (s.sp - 2#16) (loByte v) := rfl
@[simp] theorem State.push16_cycles (s : State) (v : Word) : (s.push16 v).cycles = s.cycles := rfl
@[simp] theorem State.push16_report (s : State) (v : Word) : (s.push16 v).report = s.report := rfl
@[simp] theorem State.push16_decodeErrorSeen (s : State) (v : Word) : (s.push16 v).decodeErrorSeen = s.decodeErrorSeen := rfl
@[simp] theorem State.push16_cyclesParam (s : State) (v : Word) : (s.push16 v).cyclesParam = s.cyclesParam := rfl

/-! ### writeWord -/

@[simp] theorem State.writeWord_a (s : State) (addr v : Word) : (s.writeWord addr v).a = s.a := rfl
@[simp] theorem State.writeWord_b (s : State) (addr v : Word) : (s.writeWord addr v).b = s.b := rfl
@[simp] theorem State.writeWord_c (s : State) (addr v : Word) : (s.writeWord addr v).c = s.c := rfl
@[simp] theorem State.writeWord_d (s : State) (addr v : Word) : (s.writeWord addr v).d = s.d := rfl
@[simp] theorem State.writeWord_e (s : State) (addr v : Word) : (s.writeWord addr v).e = s.e := rfl
@[simp] theorem State.writeWord_h (s : State) (addr v : Word) : (s.writeWord addr v).h = s.h := rfl
@[simp] theorem State.writeWord_l (s : State) (addr v : Word) : (s.writeWord addr v).l = s.l := rfl
@[simp] theorem State.writeWord_flags (s : State) (addr v : Word) : (s.writeWord addr v).flags = s.flags := rfl
@[simp] theorem State.writeWord_sp (s : State) (addr v : Word) : (s.writeWord addr v).sp = s.sp := rfl
@[simp] theorem State.writeWord_pc (s : State) (addr v : Word) : (s.writeWord addr v).pc = s.pc := rfl
@[simp] theorem State.writeWord_mem (s : State) (addr v : Word) : (s.writeWord addr v).mem = (s.mem.write addr (loByte v)).write (addr + 1#16) (hiByte v) := rfl
@[simp] theorem State.writeWord_cycles (s : State) (addr v : Word) : (s.writeWord addr v).cycles = s.cycles := rfl
@[simp] theorem State.writeWord_report (s : State) (addr v : Word) : (s.writeWord addr v).report = s.report := rfl
@[simp] theorem State.writeWord_decodeErrorSeen (s : State) (addr v : Word) : (s.writeWord addr v).decodeErrorSeen = s.decodeErrorSeen := rfl
@[simp] theorem State.writeWord_cyclesParam (s : State) (addr v : Word) : (s.writeWord addr v).cyclesParam = s.cyclesParam := rfl

/-! ### writeM -/

@[simp] theorem State.writeM_a (s : State) (v : Byte) : (s.writeM v).a = s.a := rfl
@[simp] theorem State.writeM_b (s : State) (v : Byte) : (s.writeM v).b = s.b := rfl
@[simp] theorem State.writeM_c (s : State) (v : Byte) : (s.writeM v).c = s.c := rfl
@[simp] theorem State.writeM_d (s : State) (v : Byte) : (s.writeM v).d = s.d := rfl
@[simp] theorem State.writeM_e (s : State) (v : Byte) : (s.writeM v).e = s.e := rfl
@[simp] theorem State.writeM_h (s : State) (v : Byte) : (s.writeM v).h = s.h := rfl
@[simp] theorem State.writeM_l (s : State) (v : Byte) : (s.writeM v).l = s.l := rfl
@[simp] theorem State.writeM_flags (s : State) (v : Byte) : (s.writeM v).flags = s.flags := rfl
@[simp] theorem State.writeM_sp (s : State) (v : Byte) : (s.writeM v).sp = s.sp := rfl
@[simp] theorem State.writeM_pc (s : State) (v : Byte) : (s.writeM v).pc = s.pc := rfl
@[simp] theorem State.writeM_mem (s : State) (v : Byte) : (s.writeM v).mem = s.mem.write s.hl v := rfl
@[simp] theorem State.writeM_cycles (s : State) (v : Byte) : (s.writeM v).cycles = s.cycles := rfl
@[simp] theorem State.writeM_report (s : State) (v : Byte) : (s.writeM v).report = s.report := rfl
@[simp] theorem State.writeM_decodeErrorSeen (s : State) (v : Byte) : (s.writeM v).decodeErrorSeen = s.decodeErrorSeen := rfl
@[simp] theorem State.writeM_cyclesParam (s : State) (v : Byte) : (s.writeM v).cyclesParam = s.cyclesParam := rfl

/-! ### setReg and setPair: the fields that are no register -/

@[simp] theorem State.setReg_flags (s : State) (r : Reg) (v : Byte) : (s.setReg r v).flags = s.flags := by
  cases r <;> rfl
@[simp] theorem State.setReg_sp (s : State) (r : Reg) (v : Byte) : (s.setReg r v).sp = s.sp := by
  cases r <;> rfl
@[simp] theorem State.setReg_pc (s : State) (r : Reg) (v : Byte) : (s.setReg r v).pc = s.pc := by
  cases r <;> rfl
@[simp] theorem State.setReg_mem (s : State) (r : Reg) (v : Byte) : (s.setReg r v).mem = s.mem := by
  cases r <;> rfl
@[simp] theorem State.setReg_cycles (s : State) (r : Reg) (v : Byte) : (s.setReg r v).cycles = s.cycles := by
  cases r <;> rfl
@[simp] theorem State.setReg_report (s : State) (r : Reg) (v : Byte) : (s.setReg r v).report = s.report := by
  cases r <;> rfl
@[simp] theorem State.setReg_decodeErrorSeen (s : State) (r : Reg) (v : Byte) : (s.setReg r v).decodeErrorSeen = s.decodeErrorSeen := by
  cases r <;> rfl
@[simp] theorem State.setReg_cyclesParam (s : State) (r : Reg) (v : Byte) : (s.setReg r v).cyclesParam = s.cyclesParam := by
  cases r <;> rfl
@[simp] theorem State.setPair_a (s : State) (p : Pair) (v : Word) : (s.setPair p v).a = s.a := by
  cases p <;> rfl
@[simp] theorem State.setPair_flags (s : State) (p : Pair) (v : Word) : (s.setPair p v).flags = s.flags := by
  cases p <;> rfl
@[simp] theorem State.setPair_pc (s : State) (p : Pair) (v : Word) : (s.setPair p v).pc = s.pc := by
  cases p <;> rfl
@[simp] theorem State.setPair_mem (s : State) (p : Pair) (v : Word) : (s.setPair p v).mem = s.mem := by
  cases p <;> rfl
@[simp] theorem State.setPair_cycles (s : State) (p : Pair) (v : Word) : (s.setPair p v).cycles = s.cycles := by
  cases p <;> rfl
@[simp] theorem State.setPair_report (s : State) (p : Pair) (v : Word) : (s.setPair p v).report = s.report := by
  cases p <;> rfl
@[simp] theorem State.setPair_decodeErrorSeen (s : State) (p : Pair) (v : Word) : (s.setPair p v).decodeErrorSeen = s.decodeErrorSeen := by
  cases p <;> rfl
@[simp] theorem State.setPair_cyclesParam (s : State) (p : Pair) (v : Word) : (s.setPair p v).cyclesParam = s.cyclesParam := by
  cases p <;> rfl

/-! ### Registers and pairs read back -/

/-- A register holds what was written to it, and no other register changes (R10). -/
theorem State.reg_setReg (s : State) (r q : Reg) (v : Byte) :
    (s.setReg r v).reg q = if q = r then v else s.reg q := by
  cases r <;> cases q <;> rfl

@[simp] theorem State.reg_setReg_self (s : State) (r : Reg) (v : Byte) : (s.setReg r v).reg r = v := by
  cases r <;> rfl

@[simp] theorem State.setReg_self (s : State) (r : Reg) : s.setReg r (s.reg r) = s := by
  cases r <;> rfl

@[simp] theorem State.reg_writeByte (s : State) (addr : Word) (v : Byte) (r : Reg) : (s.writeByte addr v).reg r = s.reg r := by
  cases r <;> rfl
@[simp] theorem State.reg_setSp (s : State) (v : Word) (r : Reg) : (s.setSp v).reg r = s.reg r := by
  cases r <;> rfl
@[simp] theorem State.reg_setPc (s : State) (v : Word) (r : Reg) : (s.setPc v).reg r = s.reg r := by
  cases r <;> rfl
@[simp] theorem State.reg_setFlags (s : State) (f : Flags) (r : Reg) : (s.setFlags f).reg r = s.reg r := by
  cases r <;> rfl
@[simp] theorem State.reg_setCy (s : State) (v : Bool) (r : Reg) : (s.setCy v).reg r = s.reg r := by
  cases r <;> rfl
@[simp] theorem State.reg_popped (s : State) (r : Reg) : s.popped.reg r = s.reg r := by
  cases r <;> rfl
@[simp] theorem State.reg_withCost (s : State) (i : Instr) (taken : Bool) (r : Reg) : (s.withCost i taken).reg r = s.reg r := by
  cases r <;> rfl
@[simp] theorem State.reg_push16 (s : State) (v : Word) (r : Reg) : (s.push16 v).reg r = s.reg r := by
  cases r <;> rfl
@[simp] theorem State.reg_writeWord (s : State) (addr v : Word) (r : Reg) : (s.writeWord addr v).reg r = s.reg r := by
  cases r <;> rfl
@[simp] theorem State.reg_writeM (s : State) (v : Byte) (r : Reg) : (s.writeM v).reg r = s.reg r := by
  cases r <;> rfl

end Sys2Proof.Machine
end

