-- ==== Sys2Proof/Laws/Memory.lean ====
section
/-! SUPPORT. The laws of memory: what a read sees after a write, and that every memory operation keeps the
canonical form. The read law needs no canonical form. -/

namespace Sys2Proof.Machine

theorem Memory.lookup_filter (m : Memory) (n k : Nat) :
    Memory.lookup (m.filter fun x => x.1 != n) k = if k = n then Config.resetByte else m.lookup k := by
  induction m with
  | nil => simp [Memory.lookup]
  | cons x rest ih =>
    by_cases hx : x.1 = n
    · simp only [List.filter_cons, hx, bne_self_eq_false, Bool.false_eq_true, if_false, ih, Memory.lookup]
      grind
    · simp only [List.filter_cons, bne_iff_ne, ne_eq, hx, not_false_eq_true, if_true, Memory.lookup, ih]
      grind

theorem Memory.lookup_insert (m : Memory) (n k : Nat) (v : Byte) (h : ∀ x ∈ m, x.1 ≠ n) :
    (m.insert n v).lookup k = if k = n then v else m.lookup k := by
  induction m with
  | nil => simp only [Memory.insert, Memory.lookup]; grind
  | cons x rest ih =>
    have hx : x.1 ≠ n := h x (by simp)
    have ih := ih fun y hy => h y (by simp [hy])
    simp only [Memory.insert]
    split
    · simp only [Memory.lookup]
      grind
    · simp only [Memory.lookup, ih]
      grind

/-- After a write, its address reads the value written and every other address reads as before (R42). -/
theorem Memory.read_write (m : Memory) (a b : Word) (v : Byte) :
    (m.write a v).read b = if b = a then v else m.read b := by
  have hab : (b.toNat = a.toNat) ↔ b = a := BitVec.toNat_inj
  unfold Memory.write Memory.read
  simp only
  split
  · next hv => rw [Memory.lookup_filter]; simp only [hab, hv]
  · rw [Memory.lookup_insert _ _ _ _ (by simp), Memory.lookup_filter]
    simp only [hab]
    grind

@[simp] theorem Memory.read_write_self (m : Memory) (a : Word) (v : Byte) : (m.write a v).read a = v := by
  simp [Memory.read_write]

theorem Memory.mem_insert {m : Memory} {n : Nat} {v : Byte} {x : Host.Cell} :
    x ∈ m.insert n v ↔ x = (n, v) ∨ x ∈ m := by
  induction m with
  | nil => simp [Memory.insert]
  | cons y rest ih =>
    simp only [Memory.insert]
    split
    · simp
    · simp only [List.mem_cons, ih]
      tauto

theorem Memory.pairwise_insert {m : Memory} {n : Nat} {v : Byte} (hm : m.Pairwise fun x y => x.1 < y.1)
    (h : ∀ x ∈ m, x.1 ≠ n) : (m.insert n v).Pairwise fun x y => x.1 < y.1 := by
  induction m with
  | nil => simp [Memory.insert]
  | cons y rest ih =>
    rw [List.pairwise_cons] at hm
    have hy : y.1 ≠ n := h y (by simp)
    simp only [Memory.insert]
    split
    · next hlt =>
      refine List.pairwise_cons.2 ⟨?_, List.pairwise_cons.2 hm⟩
      intro x hx
      rcases List.mem_cons.1 hx with rfl | hx
      · exact hlt
      · exact lt_trans hlt (hm.1 x hx)
    · next hge =>
      refine List.pairwise_cons.2 ⟨?_, ih hm.2 fun x hx => h x (by simp [hx])⟩
      intro x hx
      rcases Memory.mem_insert.1 hx with rfl | hx
      · exact lt_of_le_of_ne (not_lt.1 hge) hy
      · exact hm.1 x hx

/-- A write keeps the canonical form (R40, R42). -/
theorem Memory.wf_write {m : Memory} (hm : m.wf) (a : Word) (v : Byte) : (m.write a v).wf := by
  have hf : Memory.wf (m.filter fun x => x.1 != a.toNat) :=
    ⟨hm.1.filter _, fun x hx => hm.2 x (List.mem_filter.1 hx).1⟩
  unfold Memory.write
  simp only
  split
  · exact hf
  · next hv =>
    refine ⟨Memory.pairwise_insert hf.1 (by simp), ?_⟩
    intro x hx
    rcases Memory.mem_insert.1 hx with rfl | hx
    · exact ⟨a.isLt, hv⟩
    · exact hf.2 x hx

/-- Memory at reset reads 0x00 everywhere (R20). -/
@[simp] theorem Memory.read_nil (a : Word) : Memory.read [] a = Config.resetByte := rfl

/-! ### The same at the machine's level -/

theorem State.readByte_writeByte (s : State) (a b : Word) (v : Byte) :
    (s.writeByte a v).readByte b = if b = a then v else s.readByte b := Memory.read_write _ _ _ _

theorem State.wf_writeByte {s : State} (h : s.mem.wf) (a : Word) (v : Byte) : (s.writeByte a v).mem.wf :=
  Memory.wf_write h a v

theorem State.wf_writeWord {s : State} (h : s.mem.wf) (a v : Word) : (s.writeWord a v).mem.wf :=
  Memory.wf_write (Memory.wf_write h _ _) _ _

theorem State.wf_push16 {s : State} (h : s.mem.wf) (v : Word) : (s.push16 v).mem.wf :=
  Memory.wf_write (Memory.wf_write h _ _) _ _

theorem State.wf_writeM {s : State} (h : s.mem.wf) (v : Byte) : (s.writeM v).mem.wf := Memory.wf_write h _ _

theorem State.wf_placeBytes {s : State} (h : s.mem.wf) (b1 b2 b3 : Byte) : (s.placeBytes b1 b2 b3).mem.wf :=
  Memory.wf_write (Memory.wf_write (Memory.wf_write h _ _) _ _) _ _

end Sys2Proof.Machine
end

