-- ==== Sys2Proof/Laws/Ops.lean ====
section
/-! SUPPORT. One lemma per shared operation that says all it can do, so that a proof cites it and does not unfold the
operation again. -/

namespace Sys2Proof.Machine

/-! ### How a step ends -/

/-- `finish` answers one state: PC moved past the instruction, the outputs written, nothing else. -/
theorem finish_next {i : Instr} {s t : State} (h : finish i s = .next t) :
    t = { s with pc := s.nextPc i, cycles := cyclesOf s.cyclesParam (opcode i) false, report := none } := by
  cases h
  rfl

/-- `transfer` answers one state: PC at the target, the outputs written, nothing else. -/
theorem transfer_next {i : Instr} {taken : Bool} {target : Word} {s t : State}
    (h : transfer i taken target s = .next t) :
    t = { s with pc := target, cycles := cyclesOf s.cyclesParam (opcode i) taken, report := none } := by
  cases h
  rfl

/-- The decode error: PC + 1, cost 0, the report and the mark, nothing else. -/
theorem reportDecodeError_next {i : Instr} {s t : State} (h : reportDecodeError i s = .next t) :
    t = { s with
      pc := s.pc + 1#16, cycles := 0#8, report := some ⟨s.pc, opcode i⟩, decodeErrorSeen := true } := by
  cases h
  rfl

theorem finish_wf {i : Instr} {s t : State} (hs : s.mem.wf) (h : finish i s = .next t) : t.mem.wf := by
  rw [finish_next h]
  exact hs

theorem transfer_wf {i : Instr} {taken : Bool} {target : Word} {s t : State} (hs : s.mem.wf)
    (h : transfer i taken target s = .next t) : t.mem.wf := by
  rw [transfer_next h]
  exact hs

/-! ### Cycle costs -/

/-- A NOP duplicate costs what NOP costs, whatever the parameter says (R222). -/
theorem cyclesOf_nopDup {op : Byte} (h : op ∈ Config.nopDupSet) (param : List CycleEntry) (taken : Bool) :
    cyclesOf param op taken = cyclesOf param 0x00#8 taken := by
  simp only [Config.nopDupSet, List.mem_cons, List.not_mem_nil, or_false] at h
  rcases h with rfl | rfl | rfl | rfl | rfl | rfl | rfl <;> rfl

/-- An unknown byte costs 0, whatever the parameter says (R277). -/
theorem cyclesOf_unknown {op : Byte} (h : op ∈ Config.unknownSet) (param : List CycleEntry) (taken : Bool) :
    cyclesOf param op taken = 0#8 := if_pos h

/-! ### Words in memory and the stack -/

theorem Word.succ_ne_self (a : Word) : a + 1#16 ≠ a := by bv_omega

theorem Word.sub_one_ne_sub_two (a : Word) : a - 1#16 ≠ a - 2#16 := by bv_omega

/-- A word read back after it was written, at any address, the wrapping one too (R43, R44). -/
@[simp] theorem State.readWord_writeWord (s : State) (a v : Word) : (s.writeWord a v).readWord a = v := by
  have h := Word.succ_ne_self a
  simp [State.readWord, State.writeWord, State.readByte_writeByte, h.symm]

/-- A push, field by field (R170). -/
theorem State.push16_eq (s : State) (v : Word) :
    s.push16 v = { s with
      mem := (s.mem.write (s.sp - 1#16) (hiByte v)).write (s.sp - 2#16) (loByte v), sp := s.sp - 2#16 } := rfl

/-- The bytes a push leaves: high at SP - 1, low at SP - 2, the rest as before (R170). -/
theorem State.readByte_push16 (s : State) (v b : Word) :
    (s.push16 v).readByte b =
      if b = s.sp - 2#16 then loByte v else if b = s.sp - 1#16 then hiByte v else s.readByte b := by
  simp [State.push16, State.readByte, State.setSp, State.writeByte, Memory.read_write]

/-- The word pushed is the word on top (R170, R171). -/
@[simp] theorem State.top16_push16 (s : State) (v : Word) : (s.push16 v).top16 = v := by
  have h1 : s.sp - 2#16 + 1#16 = s.sp - 1#16 := by bv_omega
  have h2 := Word.sub_one_ne_sub_two s.sp
  simp [State.top16, State.readWord, State.readByte_push16, h1, h2]

/-- So is it in any later state with that memory and that SP. -/
theorem State.top16_of_push16 {x s : State} {v : Word} (hm : x.mem = (s.push16 v).mem)
    (hsp : x.sp = (s.push16 v).sp) : x.top16 = v := by
  have h : x.top16 = (s.push16 v).top16 := by simp only [State.top16, State.readWord, State.readByte, hm, hsp]
  rw [h, State.top16_push16]

/-- A pop after a push brings SP back (R171). -/
@[simp] theorem State.sp_popped_push16 (s : State) (v : Word) : (s.push16 v).popped.sp = s.sp := by
  simp only [State.popped_sp, State.push16_sp]
  bv_omega

/-! ### Pairs -/

/-- A pair holds what was written to it (R11). -/
@[simp] theorem State.pair_setPair (s : State) (p : Pair) (v : Word) : (s.setPair p v).pair p = v := by
  cases p <;> simp [State.setPair, State.pair, State.setHl, State.bc, State.de, State.hl]

/-- Writing a pair with its own value changes nothing (R11). -/
@[simp] theorem State.setPair_self (s : State) (p : Pair) : s.setPair p (s.pair p) = s := by
  cases p <;> simp [State.setPair, State.pair, State.setHl, State.bc, State.de, State.hl]

/-! ### The shared meanings -/

theorem loadReg_next {i : Instr} {r : Reg} {v : Byte} {s t : State} (h : loadReg i r v s = .next t) :
    t = ((s.setReg r v).setPc ((s.setReg r v).nextPc i)).withCost i false := by
  cases h
  rfl

theorem storeM_next {i : Instr} {v : Byte} {s t : State} (h : storeM i v s = .next t) :
    t = { s with
      mem := s.mem.write s.hl v, pc := s.nextPc i, cycles := cyclesOf s.cyclesParam (opcode i) false, report := none } := by
  cases h
  rfl

theorem addToA_next {i : Instr} {v : Byte} {cin : Bool} {s t : State} (h : addToA i v cin s = .next t) :
    t = { s with
      a := addResult s.a v cin, flags := addFlags s.a v cin, pc := s.nextPc i,
      cycles := cyclesOf s.cyclesParam (opcode i) false, report := none } := by
  cases h
  rfl

theorem subFromA_next {i : Instr} {v : Byte} {bin : Bool} {s t : State} (h : subFromA i v bin s = .next t) :
    t = { s with
      a := subResult s.a v bin, flags := subFlags s.a v bin, pc := s.nextPc i,
      cycles := cyclesOf s.cyclesParam (opcode i) false, report := none } := by
  cases h
  rfl

theorem logicToA_next {i : Instr} {r : Byte} {s t : State} (h : logicToA i r s = .next t) :
    t = { s with
      a := r, flags := logicFlags r, pc := s.nextPc i, cycles := cyclesOf s.cyclesParam (opcode i) false,
      report := none } := by
  cases h
  rfl

theorem compareWithA_next {i : Instr} {v : Byte} {s t : State} (h : compareWithA i v s = .next t) :
    t = { s with
      flags := subFlags s.a v false, pc := s.nextPc i, cycles := cyclesOf s.cyclesParam (opcode i) false,
      report := none } := by
  cases h
  rfl

theorem rotateA_next {i : Instr} {r : Byte} {out : Bool} {s t : State} (h : rotateA i r out s = .next t) :
    t = { s with
      a := r, flags := { s.flags with cy := out }, pc := s.nextPc i,
      cycles := cyclesOf s.cyclesParam (opcode i) false, report := none } := by
  cases h
  rfl

theorem addToHl_next {i : Instr} {v : Word} {s t : State} (h : addToHl i v s = .next t) :
    t = { s with
      h := hiByte (dadResult s.hl v), l := loByte (dadResult s.hl v),
      flags := { s.flags with cy := dadCarry s.hl v }, pc := s.nextPc i,
      cycles := cyclesOf s.cyclesParam (opcode i) false, report := none } := by
  cases h
  rfl

theorem incrementReg_next {i : Instr} {r : Reg} {s t : State} (h : incrementReg i r s = .next t) :
    t = { s.setReg r (s.reg r + 1#8) with
      flags := s.flags.increment (s.reg r), pc := s.nextPc i, cycles := cyclesOf s.cyclesParam (opcode i) false,
      report := none } := by
  cases r <;> cases h <;> rfl

theorem decrementReg_next {i : Instr} {r : Reg} {s t : State} (h : decrementReg i r s = .next t) :
    t = { s.setReg r (s.reg r - 1#8) with
      flags := s.flags.decrement (s.reg r), pc := s.nextPc i, cycles := cyclesOf s.cyclesParam (opcode i) false,
      report := none } := by
  cases r <;> cases h <;> rfl

theorem incrementM_next {i : Instr} {s t : State} (h : incrementM i s = .next t) :
    t = { s with
      mem := s.mem.write s.hl (s.readM + 1#8), flags := s.flags.increment s.readM, pc := s.nextPc i,
      cycles := cyclesOf s.cyclesParam (opcode i) false, report := none } := by
  cases h
  rfl

theorem decrementM_next {i : Instr} {s t : State} (h : decrementM i s = .next t) :
    t = { s with
      mem := s.mem.write s.hl (s.readM - 1#8), flags := s.flags.decrement s.readM, pc := s.nextPc i,
      cycles := cyclesOf s.cyclesParam (opcode i) false, report := none } := by
  cases h
  rfl

/-- A conditional jump either transfers or falls through. -/
theorem jumpIf_eq (i : Instr) (cond : Cond) (a16 : Word) (s : State) :
    jumpIf i cond a16 s = if s.flags.holds cond then transfer i true a16 s else finish i s := rfl

/-- A call pushes the next address and transfers. -/
theorem callTo_next {i : Instr} {taken : Bool} {a16 : Word} {s t : State} (h : callTo i taken a16 s = .next t) :
    t = { s with
      mem := (s.mem.write (s.sp - 1#16) (hiByte (s.nextPc i))).write (s.sp - 2#16) (loByte (s.nextPc i)),
      sp := s.sp - 2#16, pc := a16, cycles := cyclesOf s.cyclesParam (opcode i) taken, report := none } := by
  rw [callTo, State.push16_eq] at h
  cases h
  rfl

/-- A return transfers to the word on top and pops it. -/
theorem returnFrom_next {i : Instr} {taken : Bool} {s t : State} (h : returnFrom i taken s = .next t) :
    t = { s with
      sp := s.sp + 2#16, pc := s.top16, cycles := cyclesOf s.cyclesParam (opcode i) taken, report := none } := by
  cases h
  rfl

end Sys2Proof.Machine
end

