-- ==== Sys2Proof/Laws/PerInstr.lean ====
section
/-! SUPPORT. The per-instruction family `InstrCoding`: what the encoder, the form view and the length agree on, one
lemma per constructor of Instr. -/

namespace Sys2Proof.Laws

/-- The row a form names is the row the form was read from, and the encoding has the length its first byte
gives (R60, R61, R71). -/
def InstrCoding.Statement (i : Instr) : Prop :=
  Instr.ofForm i.form = i ∧ i.form.length = lengthOf (opcode i) ∧ i.form.length = (encode i).length

theorem InstrCoding.lxiB (d16 : Word) : InstrCoding.Statement (.lxiB d16) :=
  ⟨rfl, show 3 = lengthOf 0x01#8 ∧ 3 = _ from ⟨rfl, rfl⟩⟩
theorem InstrCoding.mviB (d8 : Byte) : InstrCoding.Statement (.mviB d8) :=
  ⟨rfl, show 2 = lengthOf 0x06#8 ∧ 2 = _ from ⟨rfl, rfl⟩⟩
theorem InstrCoding.mviC (d8 : Byte) : InstrCoding.Statement (.mviC d8) :=
  ⟨rfl, show 2 = lengthOf 0x0E#8 ∧ 2 = _ from ⟨rfl, rfl⟩⟩
theorem InstrCoding.lxiD (d16 : Word) : InstrCoding.Statement (.lxiD d16) :=
  ⟨rfl, show 3 = lengthOf 0x11#8 ∧ 3 = _ from ⟨rfl, rfl⟩⟩
theorem InstrCoding.mviD (d8 : Byte) : InstrCoding.Statement (.mviD d8) :=
  ⟨rfl, show 2 = lengthOf 0x16#8 ∧ 2 = _ from ⟨rfl, rfl⟩⟩
theorem InstrCoding.mviE (d8 : Byte) : InstrCoding.Statement (.mviE d8) :=
  ⟨rfl, show 2 = lengthOf 0x1E#8 ∧ 2 = _ from ⟨rfl, rfl⟩⟩
theorem InstrCoding.lxiH (d16 : Word) : InstrCoding.Statement (.lxiH d16) :=
  ⟨rfl, show 3 = lengthOf 0x21#8 ∧ 3 = _ from ⟨rfl, rfl⟩⟩
theorem InstrCoding.shld (a16 : Word) : InstrCoding.Statement (.shld a16) :=
  ⟨rfl, show 3 = lengthOf 0x22#8 ∧ 3 = _ from ⟨rfl, rfl⟩⟩
theorem InstrCoding.mviH (d8 : Byte) : InstrCoding.Statement (.mviH d8) :=
  ⟨rfl, show 2 = lengthOf 0x26#8 ∧ 2 = _ from ⟨rfl, rfl⟩⟩
theorem InstrCoding.lhld (a16 : Word) : InstrCoding.Statement (.lhld a16) :=
  ⟨rfl, show 3 = lengthOf 0x2A#8 ∧ 3 = _ from ⟨rfl, rfl⟩⟩
theorem InstrCoding.mviL (d8 : Byte) : InstrCoding.Statement (.mviL d8) :=
  ⟨rfl, show 2 = lengthOf 0x2E#8 ∧ 2 = _ from ⟨rfl, rfl⟩⟩
theorem InstrCoding.lxiSp (d16 : Word) : InstrCoding.Statement (.lxiSp d16) :=
  ⟨rfl, show 3 = lengthOf 0x31#8 ∧ 3 = _ from ⟨rfl, rfl⟩⟩
theorem InstrCoding.sta (a16 : Word) : InstrCoding.Statement (.sta a16) :=
  ⟨rfl, show 3 = lengthOf 0x32#8 ∧ 3 = _ from ⟨rfl, rfl⟩⟩
theorem InstrCoding.mviM (d8 : Byte) : InstrCoding.Statement (.mviM d8) :=
  ⟨rfl, show 2 = lengthOf 0x36#8 ∧ 2 = _ from ⟨rfl, rfl⟩⟩
theorem InstrCoding.lda (a16 : Word) : InstrCoding.Statement (.lda a16) :=
  ⟨rfl, show 3 = lengthOf 0x3A#8 ∧ 3 = _ from ⟨rfl, rfl⟩⟩
theorem InstrCoding.mviA (d8 : Byte) : InstrCoding.Statement (.mviA d8) :=
  ⟨rfl, show 2 = lengthOf 0x3E#8 ∧ 2 = _ from ⟨rfl, rfl⟩⟩
theorem InstrCoding.jnz (a16 : Word) : InstrCoding.Statement (.jnz a16) :=
  ⟨rfl, show 3 = lengthOf 0xC2#8 ∧ 3 = _ from ⟨rfl, rfl⟩⟩
theorem InstrCoding.jmp (a16 : Word) : InstrCoding.Statement (.jmp a16) :=
  ⟨rfl, show 3 = lengthOf 0xC3#8 ∧ 3 = _ from ⟨rfl, rfl⟩⟩
theorem InstrCoding.cnz (a16 : Word) : InstrCoding.Statement (.cnz a16) :=
  ⟨rfl, show 3 = lengthOf 0xC4#8 ∧ 3 = _ from ⟨rfl, rfl⟩⟩
theorem InstrCoding.adi (d8 : Byte) : InstrCoding.Statement (.adi d8) :=
  ⟨rfl, show 2 = lengthOf 0xC6#8 ∧ 2 = _ from ⟨rfl, rfl⟩⟩
theorem InstrCoding.jz (a16 : Word) : InstrCoding.Statement (.jz a16) :=
  ⟨rfl, show 3 = lengthOf 0xCA#8 ∧ 3 = _ from ⟨rfl, rfl⟩⟩
theorem InstrCoding.cz (a16 : Word) : InstrCoding.Statement (.cz a16) :=
  ⟨rfl, show 3 = lengthOf 0xCC#8 ∧ 3 = _ from ⟨rfl, rfl⟩⟩
theorem InstrCoding.call (a16 : Word) : InstrCoding.Statement (.call a16) :=
  ⟨rfl, show 3 = lengthOf 0xCD#8 ∧ 3 = _ from ⟨rfl, rfl⟩⟩
theorem InstrCoding.aci (d8 : Byte) : InstrCoding.Statement (.aci d8) :=
  ⟨rfl, show 2 = lengthOf 0xCE#8 ∧ 2 = _ from ⟨rfl, rfl⟩⟩
theorem InstrCoding.jnc (a16 : Word) : InstrCoding.Statement (.jnc a16) :=
  ⟨rfl, show 3 = lengthOf 0xD2#8 ∧ 3 = _ from ⟨rfl, rfl⟩⟩
theorem InstrCoding.outPort (port : Byte) : InstrCoding.Statement (.outPort port) :=
  ⟨rfl, show 2 = lengthOf 0xD3#8 ∧ 2 = _ from ⟨rfl, rfl⟩⟩
theorem InstrCoding.cnc (a16 : Word) : InstrCoding.Statement (.cnc a16) :=
  ⟨rfl, show 3 = lengthOf 0xD4#8 ∧ 3 = _ from ⟨rfl, rfl⟩⟩
theorem InstrCoding.sui (d8 : Byte) : InstrCoding.Statement (.sui d8) :=
  ⟨rfl, show 2 = lengthOf 0xD6#8 ∧ 2 = _ from ⟨rfl, rfl⟩⟩
theorem InstrCoding.jc (a16 : Word) : InstrCoding.Statement (.jc a16) :=
  ⟨rfl, show 3 = lengthOf 0xDA#8 ∧ 3 = _ from ⟨rfl, rfl⟩⟩
theorem InstrCoding.inPort (port : Byte) : InstrCoding.Statement (.inPort port) :=
  ⟨rfl, show 2 = lengthOf 0xDB#8 ∧ 2 = _ from ⟨rfl, rfl⟩⟩
theorem InstrCoding.cc (a16 : Word) : InstrCoding.Statement (.cc a16) :=
  ⟨rfl, show 3 = lengthOf 0xDC#8 ∧ 3 = _ from ⟨rfl, rfl⟩⟩
theorem InstrCoding.sbi (d8 : Byte) : InstrCoding.Statement (.sbi d8) :=
  ⟨rfl, show 2 = lengthOf 0xDE#8 ∧ 2 = _ from ⟨rfl, rfl⟩⟩
theorem InstrCoding.jpo (a16 : Word) : InstrCoding.Statement (.jpo a16) :=
  ⟨rfl, show 3 = lengthOf 0xE2#8 ∧ 3 = _ from ⟨rfl, rfl⟩⟩
theorem InstrCoding.cpo (a16 : Word) : InstrCoding.Statement (.cpo a16) :=
  ⟨rfl, show 3 = lengthOf 0xE4#8 ∧ 3 = _ from ⟨rfl, rfl⟩⟩
theorem InstrCoding.ani (d8 : Byte) : InstrCoding.Statement (.ani d8) :=
  ⟨rfl, show 2 = lengthOf 0xE6#8 ∧ 2 = _ from ⟨rfl, rfl⟩⟩
theorem InstrCoding.jpe (a16 : Word) : InstrCoding.Statement (.jpe a16) :=
  ⟨rfl, show 3 = lengthOf 0xEA#8 ∧ 3 = _ from ⟨rfl, rfl⟩⟩
theorem InstrCoding.cpe (a16 : Word) : InstrCoding.Statement (.cpe a16) :=
  ⟨rfl, show 3 = lengthOf 0xEC#8 ∧ 3 = _ from ⟨rfl, rfl⟩⟩
theorem InstrCoding.xri (d8 : Byte) : InstrCoding.Statement (.xri d8) :=
  ⟨rfl, show 2 = lengthOf 0xEE#8 ∧ 2 = _ from ⟨rfl, rfl⟩⟩
theorem InstrCoding.jp (a16 : Word) : InstrCoding.Statement (.jp a16) :=
  ⟨rfl, show 3 = lengthOf 0xF2#8 ∧ 3 = _ from ⟨rfl, rfl⟩⟩
theorem InstrCoding.cp (a16 : Word) : InstrCoding.Statement (.cp a16) :=
  ⟨rfl, show 3 = lengthOf 0xF4#8 ∧ 3 = _ from ⟨rfl, rfl⟩⟩
theorem InstrCoding.ori (d8 : Byte) : InstrCoding.Statement (.ori d8) :=
  ⟨rfl, show 2 = lengthOf 0xF6#8 ∧ 2 = _ from ⟨rfl, rfl⟩⟩
theorem InstrCoding.jm (a16 : Word) : InstrCoding.Statement (.jm a16) :=
  ⟨rfl, show 3 = lengthOf 0xFA#8 ∧ 3 = _ from ⟨rfl, rfl⟩⟩
theorem InstrCoding.cm (a16 : Word) : InstrCoding.Statement (.cm a16) :=
  ⟨rfl, show 3 = lengthOf 0xFC#8 ∧ 3 = _ from ⟨rfl, rfl⟩⟩
theorem InstrCoding.cpi (d8 : Byte) : InstrCoding.Statement (.cpi d8) :=
  ⟨rfl, show 2 = lengthOf 0xFE#8 ∧ 2 = _ from ⟨rfl, rfl⟩⟩
theorem InstrCoding.nop : InstrCoding.Statement .nop :=
  ⟨rfl, show 1 = lengthOf 0x00#8 ∧ 1 = _ from ⟨rfl, rfl⟩⟩
theorem InstrCoding.staxB : InstrCoding.Statement .staxB :=
  ⟨rfl, show 1 = lengthOf 0x02#8 ∧ 1 = _ from ⟨rfl, rfl⟩⟩
theorem InstrCoding.inxB : InstrCoding.Statement .inxB :=
  ⟨rfl, show 1 = lengthOf 0x03#8 ∧ 1 = _ from ⟨rfl, rfl⟩⟩
theorem InstrCoding.inrB : InstrCoding.Statement .inrB :=
  ⟨rfl, show 1 = lengthOf 0x04#8 ∧ 1 = _ from ⟨rfl, rfl⟩⟩
theorem InstrCoding.dcrB : InstrCoding.Statement .dcrB :=
  ⟨rfl, show 1 = lengthOf 0x05#8 ∧ 1 = _ from ⟨rfl, rfl⟩⟩
theorem InstrCoding.rlc : InstrCoding.Statement .rlc :=
  ⟨rfl, show 1 = lengthOf 0x07#8 ∧ 1 = _ from ⟨rfl, rfl⟩⟩
theorem InstrCoding.nopDup08 : InstrCoding.Statement .nopDup08 :=
  ⟨rfl, show 1 = lengthOf 0x08#8 ∧ 1 = _ from ⟨rfl, rfl⟩⟩
theorem InstrCoding.dadB : InstrCoding.Statement .dadB :=
  ⟨rfl, show 1 = lengthOf 0x09#8 ∧ 1 = _ from ⟨rfl, rfl⟩⟩
theorem InstrCoding.ldaxB : InstrCoding.Statement .ldaxB :=
  ⟨rfl, show 1 = lengthOf 0x0A#8 ∧ 1 = _ from ⟨rfl, rfl⟩⟩
theorem InstrCoding.dcxB : InstrCoding.Statement .dcxB :=
  ⟨rfl, show 1 = lengthOf 0x0B#8 ∧ 1 = _ from ⟨rfl, rfl⟩⟩
theorem InstrCoding.inrC : InstrCoding.Statement .inrC :=
  ⟨rfl, show 1 = lengthOf 0x0C#8 ∧ 1 = _ from ⟨rfl, rfl⟩⟩
theorem InstrCoding.dcrC : InstrCoding.Statement .dcrC :=
  ⟨rfl, show 1 = lengthOf 0x0D#8 ∧ 1 = _ from ⟨rfl, rfl⟩⟩
theorem InstrCoding.rrc : InstrCoding.Statement .rrc :=
  ⟨rfl, show 1 = lengthOf 0x0F#8 ∧ 1 = _ from ⟨rfl, rfl⟩⟩
theorem InstrCoding.nopDup10 : InstrCoding.Statement .nopDup10 :=
  ⟨rfl, show 1 = lengthOf 0x10#8 ∧ 1 = _ from ⟨rfl, rfl⟩⟩
theorem InstrCoding.staxD : InstrCoding.Statement .staxD :=
  ⟨rfl, show 1 = lengthOf 0x12#8 ∧ 1 = _ from ⟨rfl, rfl⟩⟩
theorem InstrCoding.inxD : InstrCoding.Statement .inxD :=
  ⟨rfl, show 1 = lengthOf 0x13#8 ∧ 1 = _ from ⟨rfl, rfl⟩⟩
theorem InstrCoding.inrD : InstrCoding.Statement .inrD :=
  ⟨rfl, show 1 = lengthOf 0x14#8 ∧ 1 = _ from ⟨rfl, rfl⟩⟩
theorem InstrCoding.dcrD : InstrCoding.Statement .dcrD :=
  ⟨rfl, show 1 = lengthOf 0x15#8 ∧ 1 = _ from ⟨rfl, rfl⟩⟩
theorem InstrCoding.ral : InstrCoding.Statement .ral :=
  ⟨rfl, show 1 = lengthOf 0x17#8 ∧ 1 = _ from ⟨rfl, rfl⟩⟩
theorem InstrCoding.nopDup18 : InstrCoding.Statement .nopDup18 :=
  ⟨rfl, show 1 = lengthOf 0x18#8 ∧ 1 = _ from ⟨rfl, rfl⟩⟩
theorem InstrCoding.dadD : InstrCoding.Statement .dadD :=
  ⟨rfl, show 1 = lengthOf 0x19#8 ∧ 1 = _ from ⟨rfl, rfl⟩⟩
theorem InstrCoding.ldaxD : InstrCoding.Statement .ldaxD :=
  ⟨rfl, show 1 = lengthOf 0x1A#8 ∧ 1 = _ from ⟨rfl, rfl⟩⟩
theorem InstrCoding.dcxD : InstrCoding.Statement .dcxD :=
  ⟨rfl, show 1 = lengthOf 0x1B#8 ∧ 1 = _ from ⟨rfl, rfl⟩⟩
theorem InstrCoding.inrE : InstrCoding.Statement .inrE :=
  ⟨rfl, show 1 = lengthOf 0x1C#8 ∧ 1 = _ from ⟨rfl, rfl⟩⟩
theorem InstrCoding.dcrE : InstrCoding.Statement .dcrE :=
  ⟨rfl, show 1 = lengthOf 0x1D#8 ∧ 1 = _ from ⟨rfl, rfl⟩⟩
theorem InstrCoding.rar : InstrCoding.Statement .rar :=
  ⟨rfl, show 1 = lengthOf 0x1F#8 ∧ 1 = _ from ⟨rfl, rfl⟩⟩
theorem InstrCoding.nopDup20 : InstrCoding.Statement .nopDup20 :=
  ⟨rfl, show 1 = lengthOf 0x20#8 ∧ 1 = _ from ⟨rfl, rfl⟩⟩
theorem InstrCoding.inxH : InstrCoding.Statement .inxH :=
  ⟨rfl, show 1 = lengthOf 0x23#8 ∧ 1 = _ from ⟨rfl, rfl⟩⟩
theorem InstrCoding.inrH : InstrCoding.Statement .inrH :=
  ⟨rfl, show 1 = lengthOf 0x24#8 ∧ 1 = _ from ⟨rfl, rfl⟩⟩
theorem InstrCoding.dcrH : InstrCoding.Statement .dcrH :=
  ⟨rfl, show 1 = lengthOf 0x25#8 ∧ 1 = _ from ⟨rfl, rfl⟩⟩
theorem InstrCoding.daa : InstrCoding.Statement .daa :=
  ⟨rfl, show 1 = lengthOf 0x27#8 ∧ 1 = _ from ⟨rfl, rfl⟩⟩
theorem InstrCoding.nopDup28 : InstrCoding.Statement .nopDup28 :=
  ⟨rfl, show 1 = lengthOf 0x28#8 ∧ 1 = _ from ⟨rfl, rfl⟩⟩
theorem InstrCoding.dadH : InstrCoding.Statement .dadH :=
  ⟨rfl, show 1 = lengthOf 0x29#8 ∧ 1 = _ from ⟨rfl, rfl⟩⟩
theorem InstrCoding.dcxH : InstrCoding.Statement .dcxH :=
  ⟨rfl, show 1 = lengthOf 0x2B#8 ∧ 1 = _ from ⟨rfl, rfl⟩⟩
theorem InstrCoding.inrL : InstrCoding.Statement .inrL :=
  ⟨rfl, show 1 = lengthOf 0x2C#8 ∧ 1 = _ from ⟨rfl, rfl⟩⟩
theorem InstrCoding.dcrL : InstrCoding.Statement .dcrL :=
  ⟨rfl, show 1 = lengthOf 0x2D#8 ∧ 1 = _ from ⟨rfl, rfl⟩⟩
theorem InstrCoding.cma : InstrCoding.Statement .cma :=
  ⟨rfl, show 1 = lengthOf 0x2F#8 ∧ 1 = _ from ⟨rfl, rfl⟩⟩
theorem InstrCoding.nopDup30 : InstrCoding.Statement .nopDup30 :=
  ⟨rfl, show 1 = lengthOf 0x30#8 ∧ 1 = _ from ⟨rfl, rfl⟩⟩
theorem InstrCoding.inxSp : InstrCoding.Statement .inxSp :=
  ⟨rfl, show 1 = lengthOf 0x33#8 ∧ 1 = _ from ⟨rfl, rfl⟩⟩
theorem InstrCoding.inrM : InstrCoding.Statement .inrM :=
  ⟨rfl, show 1 = lengthOf 0x34#8 ∧ 1 = _ from ⟨rfl, rfl⟩⟩
theorem InstrCoding.dcrM : InstrCoding.Statement .dcrM :=
  ⟨rfl, show 1 = lengthOf 0x35#8 ∧ 1 = _ from ⟨rfl, rfl⟩⟩
theorem InstrCoding.stc : InstrCoding.Statement .stc :=
  ⟨rfl, show 1 = lengthOf 0x37#8 ∧ 1 = _ from ⟨rfl, rfl⟩⟩
theorem InstrCoding.nopDup38 : InstrCoding.Statement .nopDup38 :=
  ⟨rfl, show 1 = lengthOf 0x38#8 ∧ 1 = _ from ⟨rfl, rfl⟩⟩
theorem InstrCoding.dadSp : InstrCoding.Statement .dadSp :=
  ⟨rfl, show 1 = lengthOf 0x39#8 ∧ 1 = _ from ⟨rfl, rfl⟩⟩
theorem InstrCoding.dcxSp : InstrCoding.Statement .dcxSp :=
  ⟨rfl, show 1 = lengthOf 0x3B#8 ∧ 1 = _ from ⟨rfl, rfl⟩⟩
theorem InstrCoding.inrA : InstrCoding.Statement .inrA :=
  ⟨rfl, show 1 = lengthOf 0x3C#8 ∧ 1 = _ from ⟨rfl, rfl⟩⟩
theorem InstrCoding.dcrA : InstrCoding.Statement .dcrA :=
  ⟨rfl, show 1 = lengthOf 0x3D#8 ∧ 1 = _ from ⟨rfl, rfl⟩⟩
theorem InstrCoding.cmc : InstrCoding.Statement .cmc :=
  ⟨rfl, show 1 = lengthOf 0x3F#8 ∧ 1 = _ from ⟨rfl, rfl⟩⟩
theorem InstrCoding.movBB : InstrCoding.Statement .movBB :=
  ⟨rfl, show 1 = lengthOf 0x40#8 ∧ 1 = _ from ⟨rfl, rfl⟩⟩
theorem InstrCoding.movBC : InstrCoding.Statement .movBC :=
  ⟨rfl, show 1 = lengthOf 0x41#8 ∧ 1 = _ from ⟨rfl, rfl⟩⟩
theorem InstrCoding.movBD : InstrCoding.Statement .movBD :=
  ⟨rfl, show 1 = lengthOf 0x42#8 ∧ 1 = _ from ⟨rfl, rfl⟩⟩
theorem InstrCoding.movBE : InstrCoding.Statement .movBE :=
  ⟨rfl, show 1 = lengthOf 0x43#8 ∧ 1 = _ from ⟨rfl, rfl⟩⟩
theorem InstrCoding.movBH : InstrCoding.Statement .movBH :=
  ⟨rfl, show 1 = lengthOf 0x44#8 ∧ 1 = _ from ⟨rfl, rfl⟩⟩
theorem InstrCoding.movBL : InstrCoding.Statement .movBL :=
  ⟨rfl, show 1 = lengthOf 0x45#8 ∧ 1 = _ from ⟨rfl, rfl⟩⟩
theorem InstrCoding.movBM : InstrCoding.Statement .movBM :=
  ⟨rfl, show 1 = lengthOf 0x46#8 ∧ 1 = _ from ⟨rfl, rfl⟩⟩
theorem InstrCoding.movBA : InstrCoding.Statement .movBA :=
  ⟨rfl, show 1 = lengthOf 0x47#8 ∧ 1 = _ from ⟨rfl, rfl⟩⟩
theorem InstrCoding.movCB : InstrCoding.Statement .movCB :=
  ⟨rfl, show 1 = lengthOf 0x48#8 ∧ 1 = _ from ⟨rfl, rfl⟩⟩
theorem InstrCoding.movCC : InstrCoding.Statement .movCC :=
  ⟨rfl, show 1 = lengthOf 0x49#8 ∧ 1 = _ from ⟨rfl, rfl⟩⟩
theorem InstrCoding.movCD : InstrCoding.Statement .movCD :=
  ⟨rfl, show 1 = lengthOf 0x4A#8 ∧ 1 = _ from ⟨rfl, rfl⟩⟩
theorem InstrCoding.movCE : InstrCoding.Statement .movCE :=
  ⟨rfl, show 1 = lengthOf 0x4B#8 ∧ 1 = _ from ⟨rfl, rfl⟩⟩
theorem InstrCoding.movCH : InstrCoding.Statement .movCH :=
  ⟨rfl, show 1 = lengthOf 0x4C#8 ∧ 1 = _ from ⟨rfl, rfl⟩⟩
theorem InstrCoding.movCL : InstrCoding.Statement .movCL :=
  ⟨rfl, show 1 = lengthOf 0x4D#8 ∧ 1 = _ from ⟨rfl, rfl⟩⟩
theorem InstrCoding.movCM : InstrCoding.Statement .movCM :=
  ⟨rfl, show 1 = lengthOf 0x4E#8 ∧ 1 = _ from ⟨rfl, rfl⟩⟩
theorem InstrCoding.movCA : InstrCoding.Statement .movCA :=
  ⟨rfl, show 1 = lengthOf 0x4F#8 ∧ 1 = _ from ⟨rfl, rfl⟩⟩
theorem InstrCoding.movDB : InstrCoding.Statement .movDB :=
  ⟨rfl, show 1 = lengthOf 0x50#8 ∧ 1 = _ from ⟨rfl, rfl⟩⟩
theorem InstrCoding.movDC : InstrCoding.Statement .movDC :=
  ⟨rfl, show 1 = lengthOf 0x51#8 ∧ 1 = _ from ⟨rfl, rfl⟩⟩
theorem InstrCoding.movDD : InstrCoding.Statement .movDD :=
  ⟨rfl, show 1 = lengthOf 0x52#8 ∧ 1 = _ from ⟨rfl, rfl⟩⟩
theorem InstrCoding.movDE : InstrCoding.Statement .movDE :=
  ⟨rfl, show 1 = lengthOf 0x53#8 ∧ 1 = _ from ⟨rfl, rfl⟩⟩
theorem InstrCoding.movDH : InstrCoding.Statement .movDH :=
  ⟨rfl, show 1 = lengthOf 0x54#8 ∧ 1 = _ from ⟨rfl, rfl⟩⟩
theorem InstrCoding.movDL : InstrCoding.Statement .movDL :=
  ⟨rfl, show 1 = lengthOf 0x55#8 ∧ 1 = _ from ⟨rfl, rfl⟩⟩
theorem InstrCoding.movDM : InstrCoding.Statement .movDM :=
  ⟨rfl, show 1 = lengthOf 0x56#8 ∧ 1 = _ from ⟨rfl, rfl⟩⟩
theorem InstrCoding.movDA : InstrCoding.Statement .movDA :=
  ⟨rfl, show 1 = lengthOf 0x57#8 ∧ 1 = _ from ⟨rfl, rfl⟩⟩
theorem InstrCoding.movEB : InstrCoding.Statement .movEB :=
  ⟨rfl, show 1 = lengthOf 0x58#8 ∧ 1 = _ from ⟨rfl, rfl⟩⟩
theorem InstrCoding.movEC : InstrCoding.Statement .movEC :=
  ⟨rfl, show 1 = lengthOf 0x59#8 ∧ 1 = _ from ⟨rfl, rfl⟩⟩
theorem InstrCoding.movED : InstrCoding.Statement .movED :=
  ⟨rfl, show 1 = lengthOf 0x5A#8 ∧ 1 = _ from ⟨rfl, rfl⟩⟩
theorem InstrCoding.movEE : InstrCoding.Statement .movEE :=
  ⟨rfl, show 1 = lengthOf 0x5B#8 ∧ 1 = _ from ⟨rfl, rfl⟩⟩
theorem InstrCoding.movEH : InstrCoding.Statement .movEH :=
  ⟨rfl, show 1 = lengthOf 0x5C#8 ∧ 1 = _ from ⟨rfl, rfl⟩⟩
theorem InstrCoding.movEL : InstrCoding.Statement .movEL :=
  ⟨rfl, show 1 = lengthOf 0x5D#8 ∧ 1 = _ from ⟨rfl, rfl⟩⟩
theorem InstrCoding.movEM : InstrCoding.Statement .movEM :=
  ⟨rfl, show 1 = lengthOf 0x5E#8 ∧ 1 = _ from ⟨rfl, rfl⟩⟩
theorem InstrCoding.movEA : InstrCoding.Statement .movEA :=
  ⟨rfl, show 1 = lengthOf 0x5F#8 ∧ 1 = _ from ⟨rfl, rfl⟩⟩
theorem InstrCoding.movHB : InstrCoding.Statement .movHB :=
  ⟨rfl, show 1 = lengthOf 0x60#8 ∧ 1 = _ from ⟨rfl, rfl⟩⟩
theorem InstrCoding.movHC : InstrCoding.Statement .movHC :=
  ⟨rfl, show 1 = lengthOf 0x61#8 ∧ 1 = _ from ⟨rfl, rfl⟩⟩
theorem InstrCoding.movHD : InstrCoding.Statement .movHD :=
  ⟨rfl, show 1 = lengthOf 0x62#8 ∧ 1 = _ from ⟨rfl, rfl⟩⟩
theorem InstrCoding.movHE : InstrCoding.Statement .movHE :=
  ⟨rfl, show 1 = lengthOf 0x63#8 ∧ 1 = _ from ⟨rfl, rfl⟩⟩
theorem InstrCoding.movHH : InstrCoding.Statement .movHH :=
  ⟨rfl, show 1 = lengthOf 0x64#8 ∧ 1 = _ from ⟨rfl, rfl⟩⟩
theorem InstrCoding.movHL : InstrCoding.Statement .movHL :=
  ⟨rfl, show 1 = lengthOf 0x65#8 ∧ 1 = _ from ⟨rfl, rfl⟩⟩
theorem InstrCoding.movHM : InstrCoding.Statement .movHM :=
  ⟨rfl, show 1 = lengthOf 0x66#8 ∧ 1 = _ from ⟨rfl, rfl⟩⟩
theorem InstrCoding.movHA : InstrCoding.Statement .movHA :=
  ⟨rfl, show 1 = lengthOf 0x67#8 ∧ 1 = _ from ⟨rfl, rfl⟩⟩
theorem InstrCoding.movLB : InstrCoding.Statement .movLB :=
  ⟨rfl, show 1 = lengthOf 0x68#8 ∧ 1 = _ from ⟨rfl, rfl⟩⟩
theorem InstrCoding.movLC : InstrCoding.Statement .movLC :=
  ⟨rfl, show 1 = lengthOf 0x69#8 ∧ 1 = _ from ⟨rfl, rfl⟩⟩
theorem InstrCoding.movLD : InstrCoding.Statement .movLD :=
  ⟨rfl, show 1 = lengthOf 0x6A#8 ∧ 1 = _ from ⟨rfl, rfl⟩⟩
theorem InstrCoding.movLE : InstrCoding.Statement .movLE :=
  ⟨rfl, show 1 = lengthOf 0x6B#8 ∧ 1 = _ from ⟨rfl, rfl⟩⟩
theorem InstrCoding.movLH : InstrCoding.Statement .movLH :=
  ⟨rfl, show 1 = lengthOf 0x6C#8 ∧ 1 = _ from ⟨rfl, rfl⟩⟩
theorem InstrCoding.movLL : InstrCoding.Statement .movLL :=
  ⟨rfl, show 1 = lengthOf 0x6D#8 ∧ 1 = _ from ⟨rfl, rfl⟩⟩
theorem InstrCoding.movLM : InstrCoding.Statement .movLM :=
  ⟨rfl, show 1 = lengthOf 0x6E#8 ∧ 1 = _ from ⟨rfl, rfl⟩⟩
theorem InstrCoding.movLA : InstrCoding.Statement .movLA :=
  ⟨rfl, show 1 = lengthOf 0x6F#8 ∧ 1 = _ from ⟨rfl, rfl⟩⟩
theorem InstrCoding.movMB : InstrCoding.Statement .movMB :=
  ⟨rfl, show 1 = lengthOf 0x70#8 ∧ 1 = _ from ⟨rfl, rfl⟩⟩
theorem InstrCoding.movMC : InstrCoding.Statement .movMC :=
  ⟨rfl, show 1 = lengthOf 0x71#8 ∧ 1 = _ from ⟨rfl, rfl⟩⟩
theorem InstrCoding.movMD : InstrCoding.Statement .movMD :=
  ⟨rfl, show 1 = lengthOf 0x72#8 ∧ 1 = _ from ⟨rfl, rfl⟩⟩
theorem InstrCoding.movME : InstrCoding.Statement .movME :=
  ⟨rfl, show 1 = lengthOf 0x73#8 ∧ 1 = _ from ⟨rfl, rfl⟩⟩
theorem InstrCoding.movMH : InstrCoding.Statement .movMH :=
  ⟨rfl, show 1 = lengthOf 0x74#8 ∧ 1 = _ from ⟨rfl, rfl⟩⟩
theorem InstrCoding.movML : InstrCoding.Statement .movML :=
  ⟨rfl, show 1 = lengthOf 0x75#8 ∧ 1 = _ from ⟨rfl, rfl⟩⟩
theorem InstrCoding.hlt : InstrCoding.Statement .hlt :=
  ⟨rfl, show 1 = lengthOf 0x76#8 ∧ 1 = _ from ⟨rfl, rfl⟩⟩
theorem InstrCoding.movMA : InstrCoding.Statement .movMA :=
  ⟨rfl, show 1 = lengthOf 0x77#8 ∧ 1 = _ from ⟨rfl, rfl⟩⟩
theorem InstrCoding.movAB : InstrCoding.Statement .movAB :=
  ⟨rfl, show 1 = lengthOf 0x78#8 ∧ 1 = _ from ⟨rfl, rfl⟩⟩
theorem InstrCoding.movAC : InstrCoding.Statement .movAC :=
  ⟨rfl, show 1 = lengthOf 0x79#8 ∧ 1 = _ from ⟨rfl, rfl⟩⟩
theorem InstrCoding.movAD : InstrCoding.Statement .movAD :=
  ⟨rfl, show 1 = lengthOf 0x7A#8 ∧ 1 = _ from ⟨rfl, rfl⟩⟩
theorem InstrCoding.movAE : InstrCoding.Statement .movAE :=
  ⟨rfl, show 1 = lengthOf 0x7B#8 ∧ 1 = _ from ⟨rfl, rfl⟩⟩
theorem InstrCoding.movAH : InstrCoding.Statement .movAH :=
  ⟨rfl, show 1 = lengthOf 0x7C#8 ∧ 1 = _ from ⟨rfl, rfl⟩⟩
theorem InstrCoding.movAL : InstrCoding.Statement .movAL :=
  ⟨rfl, show 1 = lengthOf 0x7D#8 ∧ 1 = _ from ⟨rfl, rfl⟩⟩
theorem InstrCoding.movAM : InstrCoding.Statement .movAM :=
  ⟨rfl, show 1 = lengthOf 0x7E#8 ∧ 1 = _ from ⟨rfl, rfl⟩⟩
theorem InstrCoding.movAA : InstrCoding.Statement .movAA :=
  ⟨rfl, show 1 = lengthOf 0x7F#8 ∧ 1 = _ from ⟨rfl, rfl⟩⟩
theorem InstrCoding.addB : InstrCoding.Statement .addB :=
  ⟨rfl, show 1 = lengthOf 0x80#8 ∧ 1 = _ from ⟨rfl, rfl⟩⟩
theorem InstrCoding.addC : InstrCoding.Statement .addC :=
  ⟨rfl, show 1 = lengthOf 0x81#8 ∧ 1 = _ from ⟨rfl, rfl⟩⟩
theorem InstrCoding.addD : InstrCoding.Statement .addD :=
  ⟨rfl, show 1 = lengthOf 0x82#8 ∧ 1 = _ from ⟨rfl, rfl⟩⟩
theorem InstrCoding.addE : InstrCoding.Statement .addE :=
  ⟨rfl, show 1 = lengthOf 0x83#8 ∧ 1 = _ from ⟨rfl, rfl⟩⟩
theorem InstrCoding.addH : InstrCoding.Statement .addH :=
  ⟨rfl, show 1 = lengthOf 0x84#8 ∧ 1 = _ from ⟨rfl, rfl⟩⟩
theorem InstrCoding.addL : InstrCoding.Statement .addL :=
  ⟨rfl, show 1 = lengthOf 0x85#8 ∧ 1 = _ from ⟨rfl, rfl⟩⟩
theorem InstrCoding.addM : InstrCoding.Statement .addM :=
  ⟨rfl, show 1 = lengthOf 0x86#8 ∧ 1 = _ from ⟨rfl, rfl⟩⟩
theorem InstrCoding.addA : InstrCoding.Statement .addA :=
  ⟨rfl, show 1 = lengthOf 0x87#8 ∧ 1 = _ from ⟨rfl, rfl⟩⟩
theorem InstrCoding.adcB : InstrCoding.Statement .adcB :=
  ⟨rfl, show 1 = lengthOf 0x88#8 ∧ 1 = _ from ⟨rfl, rfl⟩⟩
theorem InstrCoding.adcC : InstrCoding.Statement .adcC :=
  ⟨rfl, show 1 = lengthOf 0x89#8 ∧ 1 = _ from ⟨rfl, rfl⟩⟩
theorem InstrCoding.adcD : InstrCoding.Statement .adcD :=
  ⟨rfl, show 1 = lengthOf 0x8A#8 ∧ 1 = _ from ⟨rfl, rfl⟩⟩
theorem InstrCoding.adcE : InstrCoding.Statement .adcE :=
  ⟨rfl, show 1 = lengthOf 0x8B#8 ∧ 1 = _ from ⟨rfl, rfl⟩⟩
theorem InstrCoding.adcH : InstrCoding.Statement .adcH :=
  ⟨rfl, show 1 = lengthOf 0x8C#8 ∧ 1 = _ from ⟨rfl, rfl⟩⟩
theorem InstrCoding.adcL : InstrCoding.Statement .adcL :=
  ⟨rfl, show 1 = lengthOf 0x8D#8 ∧ 1 = _ from ⟨rfl, rfl⟩⟩
theorem InstrCoding.adcM : InstrCoding.Statement .adcM :=
  ⟨rfl, show 1 = lengthOf 0x8E#8 ∧ 1 = _ from ⟨rfl, rfl⟩⟩
theorem InstrCoding.adcA : InstrCoding.Statement .adcA :=
  ⟨rfl, show 1 = lengthOf 0x8F#8 ∧ 1 = _ from ⟨rfl, rfl⟩⟩
theorem InstrCoding.subB : InstrCoding.Statement .subB :=
  ⟨rfl, show 1 = lengthOf 0x90#8 ∧ 1 = _ from ⟨rfl, rfl⟩⟩
theorem InstrCoding.subC : InstrCoding.Statement .subC :=
  ⟨rfl, show 1 = lengthOf 0x91#8 ∧ 1 = _ from ⟨rfl, rfl⟩⟩
theorem InstrCoding.subD : InstrCoding.Statement .subD :=
  ⟨rfl, show 1 = lengthOf 0x92#8 ∧ 1 = _ from ⟨rfl, rfl⟩⟩
theorem InstrCoding.subE : InstrCoding.Statement .subE :=
  ⟨rfl, show 1 = lengthOf 0x93#8 ∧ 1 = _ from ⟨rfl, rfl⟩⟩
theorem InstrCoding.subH : InstrCoding.Statement .subH :=
  ⟨rfl, show 1 = lengthOf 0x94#8 ∧ 1 = _ from ⟨rfl, rfl⟩⟩
theorem InstrCoding.subL : InstrCoding.Statement .subL :=
  ⟨rfl, show 1 = lengthOf 0x95#8 ∧ 1 = _ from ⟨rfl, rfl⟩⟩
theorem InstrCoding.subM : InstrCoding.Statement .subM :=
  ⟨rfl, show 1 = lengthOf 0x96#8 ∧ 1 = _ from ⟨rfl, rfl⟩⟩
theorem InstrCoding.subA : InstrCoding.Statement .subA :=
  ⟨rfl, show 1 = lengthOf 0x97#8 ∧ 1 = _ from ⟨rfl, rfl⟩⟩
theorem InstrCoding.sbbB : InstrCoding.Statement .sbbB :=
  ⟨rfl, show 1 = lengthOf 0x98#8 ∧ 1 = _ from ⟨rfl, rfl⟩⟩
theorem InstrCoding.sbbC : InstrCoding.Statement .sbbC :=
  ⟨rfl, show 1 = lengthOf 0x99#8 ∧ 1 = _ from ⟨rfl, rfl⟩⟩
theorem InstrCoding.sbbD : InstrCoding.Statement .sbbD :=
  ⟨rfl, show 1 = lengthOf 0x9A#8 ∧ 1 = _ from ⟨rfl, rfl⟩⟩
theorem InstrCoding.sbbE : InstrCoding.Statement .sbbE :=
  ⟨rfl, show 1 = lengthOf 0x9B#8 ∧ 1 = _ from ⟨rfl, rfl⟩⟩
theorem InstrCoding.sbbH : InstrCoding.Statement .sbbH :=
  ⟨rfl, show 1 = lengthOf 0x9C#8 ∧ 1 = _ from ⟨rfl, rfl⟩⟩
theorem InstrCoding.sbbL : InstrCoding.Statement .sbbL :=
  ⟨rfl, show 1 = lengthOf 0x9D#8 ∧ 1 = _ from ⟨rfl, rfl⟩⟩
theorem InstrCoding.sbbM : InstrCoding.Statement .sbbM :=
  ⟨rfl, show 1 = lengthOf 0x9E#8 ∧ 1 = _ from ⟨rfl, rfl⟩⟩
theorem InstrCoding.sbbA : InstrCoding.Statement .sbbA :=
  ⟨rfl, show 1 = lengthOf 0x9F#8 ∧ 1 = _ from ⟨rfl, rfl⟩⟩
theorem InstrCoding.anaB : InstrCoding.Statement .anaB :=
  ⟨rfl, show 1 = lengthOf 0xA0#8 ∧ 1 = _ from ⟨rfl, rfl⟩⟩
theorem InstrCoding.anaC : InstrCoding.Statement .anaC :=
  ⟨rfl, show 1 = lengthOf 0xA1#8 ∧ 1 = _ from ⟨rfl, rfl⟩⟩
theorem InstrCoding.anaD : InstrCoding.Statement .anaD :=
  ⟨rfl, show 1 = lengthOf 0xA2#8 ∧ 1 = _ from ⟨rfl, rfl⟩⟩
theorem InstrCoding.anaE : InstrCoding.Statement .anaE :=
  ⟨rfl, show 1 = lengthOf 0xA3#8 ∧ 1 = _ from ⟨rfl, rfl⟩⟩
theorem InstrCoding.anaH : InstrCoding.Statement .anaH :=
  ⟨rfl, show 1 = lengthOf 0xA4#8 ∧ 1 = _ from ⟨rfl, rfl⟩⟩
theorem InstrCoding.anaL : InstrCoding.Statement .anaL :=
  ⟨rfl, show 1 = lengthOf 0xA5#8 ∧ 1 = _ from ⟨rfl, rfl⟩⟩
theorem InstrCoding.anaM : InstrCoding.Statement .anaM :=
  ⟨rfl, show 1 = lengthOf 0xA6#8 ∧ 1 = _ from ⟨rfl, rfl⟩⟩
theorem InstrCoding.anaA : InstrCoding.Statement .anaA :=
  ⟨rfl, show 1 = lengthOf 0xA7#8 ∧ 1 = _ from ⟨rfl, rfl⟩⟩
theorem InstrCoding.xraB : InstrCoding.Statement .xraB :=
  ⟨rfl, show 1 = lengthOf 0xA8#8 ∧ 1 = _ from ⟨rfl, rfl⟩⟩
theorem InstrCoding.xraC : InstrCoding.Statement .xraC :=
  ⟨rfl, show 1 = lengthOf 0xA9#8 ∧ 1 = _ from ⟨rfl, rfl⟩⟩
theorem InstrCoding.xraD : InstrCoding.Statement .xraD :=
  ⟨rfl, show 1 = lengthOf 0xAA#8 ∧ 1 = _ from ⟨rfl, rfl⟩⟩
theorem InstrCoding.xraE : InstrCoding.Statement .xraE :=
  ⟨rfl, show 1 = lengthOf 0xAB#8 ∧ 1 = _ from ⟨rfl, rfl⟩⟩
theorem InstrCoding.xraH : InstrCoding.Statement .xraH :=
  ⟨rfl, show 1 = lengthOf 0xAC#8 ∧ 1 = _ from ⟨rfl, rfl⟩⟩
theorem InstrCoding.xraL : InstrCoding.Statement .xraL :=
  ⟨rfl, show 1 = lengthOf 0xAD#8 ∧ 1 = _ from ⟨rfl, rfl⟩⟩
theorem InstrCoding.xraM : InstrCoding.Statement .xraM :=
  ⟨rfl, show 1 = lengthOf 0xAE#8 ∧ 1 = _ from ⟨rfl, rfl⟩⟩
theorem InstrCoding.xraA : InstrCoding.Statement .xraA :=
  ⟨rfl, show 1 = lengthOf 0xAF#8 ∧ 1 = _ from ⟨rfl, rfl⟩⟩
theorem InstrCoding.oraB : InstrCoding.Statement .oraB :=
  ⟨rfl, show 1 = lengthOf 0xB0#8 ∧ 1 = _ from ⟨rfl, rfl⟩⟩
theorem InstrCoding.oraC : InstrCoding.Statement .oraC :=
  ⟨rfl, show 1 = lengthOf 0xB1#8 ∧ 1 = _ from ⟨rfl, rfl⟩⟩
theorem InstrCoding.oraD : InstrCoding.Statement .oraD :=
  ⟨rfl, show 1 = lengthOf 0xB2#8 ∧ 1 = _ from ⟨rfl, rfl⟩⟩
theorem InstrCoding.oraE : InstrCoding.Statement .oraE :=
  ⟨rfl, show 1 = lengthOf 0xB3#8 ∧ 1 = _ from ⟨rfl, rfl⟩⟩
theorem InstrCoding.oraH : InstrCoding.Statement .oraH :=
  ⟨rfl, show 1 = lengthOf 0xB4#8 ∧ 1 = _ from ⟨rfl, rfl⟩⟩
theorem InstrCoding.oraL : InstrCoding.Statement .oraL :=
  ⟨rfl, show 1 = lengthOf 0xB5#8 ∧ 1 = _ from ⟨rfl, rfl⟩⟩
theorem InstrCoding.oraM : InstrCoding.Statement .oraM :=
  ⟨rfl, show 1 = lengthOf 0xB6#8 ∧ 1 = _ from ⟨rfl, rfl⟩⟩
theorem InstrCoding.oraA : InstrCoding.Statement .oraA :=
  ⟨rfl, show 1 = lengthOf 0xB7#8 ∧ 1 = _ from ⟨rfl, rfl⟩⟩
theorem InstrCoding.cmpB : InstrCoding.Statement .cmpB :=
  ⟨rfl, show 1 = lengthOf 0xB8#8 ∧ 1 = _ from ⟨rfl, rfl⟩⟩
theorem InstrCoding.cmpC : InstrCoding.Statement .cmpC :=
  ⟨rfl, show 1 = lengthOf 0xB9#8 ∧ 1 = _ from ⟨rfl, rfl⟩⟩
theorem InstrCoding.cmpD : InstrCoding.Statement .cmpD :=
  ⟨rfl, show 1 = lengthOf 0xBA#8 ∧ 1 = _ from ⟨rfl, rfl⟩⟩
theorem InstrCoding.cmpE : InstrCoding.Statement .cmpE :=
  ⟨rfl, show 1 = lengthOf 0xBB#8 ∧ 1 = _ from ⟨rfl, rfl⟩⟩
theorem InstrCoding.cmpH : InstrCoding.Statement .cmpH :=
  ⟨rfl, show 1 = lengthOf 0xBC#8 ∧ 1 = _ from ⟨rfl, rfl⟩⟩
theorem InstrCoding.cmpL : InstrCoding.Statement .cmpL :=
  ⟨rfl, show 1 = lengthOf 0xBD#8 ∧ 1 = _ from ⟨rfl, rfl⟩⟩
theorem InstrCoding.cmpM : InstrCoding.Statement .cmpM :=
  ⟨rfl, show 1 = lengthOf 0xBE#8 ∧ 1 = _ from ⟨rfl, rfl⟩⟩
theorem InstrCoding.cmpA : InstrCoding.Statement .cmpA :=
  ⟨rfl, show 1 = lengthOf 0xBF#8 ∧ 1 = _ from ⟨rfl, rfl⟩⟩
theorem InstrCoding.rnz : InstrCoding.Statement .rnz :=
  ⟨rfl, show 1 = lengthOf 0xC0#8 ∧ 1 = _ from ⟨rfl, rfl⟩⟩
theorem InstrCoding.popB : InstrCoding.Statement .popB :=
  ⟨rfl, show 1 = lengthOf 0xC1#8 ∧ 1 = _ from ⟨rfl, rfl⟩⟩
theorem InstrCoding.pushB : InstrCoding.Statement .pushB :=
  ⟨rfl, show 1 = lengthOf 0xC5#8 ∧ 1 = _ from ⟨rfl, rfl⟩⟩
theorem InstrCoding.rst0 : InstrCoding.Statement .rst0 :=
  ⟨rfl, show 1 = lengthOf 0xC7#8 ∧ 1 = _ from ⟨rfl, rfl⟩⟩
theorem InstrCoding.rz : InstrCoding.Statement .rz :=
  ⟨rfl, show 1 = lengthOf 0xC8#8 ∧ 1 = _ from ⟨rfl, rfl⟩⟩
theorem InstrCoding.ret : InstrCoding.Statement .ret :=
  ⟨rfl, show 1 = lengthOf 0xC9#8 ∧ 1 = _ from ⟨rfl, rfl⟩⟩
theorem InstrCoding.unknownCB : InstrCoding.Statement .unknownCB :=
  ⟨rfl, show 1 = lengthOf 0xCB#8 ∧ 1 = _ from ⟨rfl, rfl⟩⟩
theorem InstrCoding.rst1 : InstrCoding.Statement .rst1 :=
  ⟨rfl, show 1 = lengthOf 0xCF#8 ∧ 1 = _ from ⟨rfl, rfl⟩⟩
theorem InstrCoding.rnc : InstrCoding.Statement .rnc :=
  ⟨rfl, show 1 = lengthOf 0xD0#8 ∧ 1 = _ from ⟨rfl, rfl⟩⟩
theorem InstrCoding.popD : InstrCoding.Statement .popD :=
  ⟨rfl, show 1 = lengthOf 0xD1#8 ∧ 1 = _ from ⟨rfl, rfl⟩⟩
theorem InstrCoding.pushD : InstrCoding.Statement .pushD :=
  ⟨rfl, show 1 = lengthOf 0xD5#8 ∧ 1 = _ from ⟨rfl, rfl⟩⟩
theorem InstrCoding.rst2 : InstrCoding.Statement .rst2 :=
  ⟨rfl, show 1 = lengthOf 0xD7#8 ∧ 1 = _ from ⟨rfl, rfl⟩⟩
theorem InstrCoding.rc : InstrCoding.Statement .rc :=
  ⟨rfl, show 1 = lengthOf 0xD8#8 ∧ 1 = _ from ⟨rfl, rfl⟩⟩
theorem InstrCoding.unknownD9 : InstrCoding.Statement .unknownD9 :=
  ⟨rfl, show 1 = lengthOf 0xD9#8 ∧ 1 = _ from ⟨rfl, rfl⟩⟩
theorem InstrCoding.unknownDD : InstrCoding.Statement .unknownDD :=
  ⟨rfl, show 1 = lengthOf 0xDD#8 ∧ 1 = _ from ⟨rfl, rfl⟩⟩
theorem InstrCoding.rst3 : InstrCoding.Statement .rst3 :=
  ⟨rfl, show 1 = lengthOf 0xDF#8 ∧ 1 = _ from ⟨rfl, rfl⟩⟩
theorem InstrCoding.rpo : InstrCoding.Statement .rpo :=
  ⟨rfl, show 1 = lengthOf 0xE0#8 ∧ 1 = _ from ⟨rfl, rfl⟩⟩
theorem InstrCoding.popH : InstrCoding.Statement .popH :=
  ⟨rfl, show 1 = lengthOf 0xE1#8 ∧ 1 = _ from ⟨rfl, rfl⟩⟩
theorem InstrCoding.xthl : InstrCoding.Statement .xthl :=
  ⟨rfl, show 1 = lengthOf 0xE3#8 ∧ 1 = _ from ⟨rfl, rfl⟩⟩
theorem InstrCoding.pushH : InstrCoding.Statement .pushH :=
  ⟨rfl, show 1 = lengthOf 0xE5#8 ∧ 1 = _ from ⟨rfl, rfl⟩⟩
theorem InstrCoding.rst4 : InstrCoding.Statement .rst4 :=
  ⟨rfl, show 1 = lengthOf 0xE7#8 ∧ 1 = _ from ⟨rfl, rfl⟩⟩
theorem InstrCoding.rpe : InstrCoding.Statement .rpe :=
  ⟨rfl, show 1 = lengthOf 0xE8#8 ∧ 1 = _ from ⟨rfl, rfl⟩⟩
theorem InstrCoding.pchl : InstrCoding.Statement .pchl :=
  ⟨rfl, show 1 = lengthOf 0xE9#8 ∧ 1 = _ from ⟨rfl, rfl⟩⟩
theorem InstrCoding.xchg : InstrCoding.Statement .xchg :=
  ⟨rfl, show 1 = lengthOf 0xEB#8 ∧ 1 = _ from ⟨rfl, rfl⟩⟩
theorem InstrCoding.unknownED : InstrCoding.Statement .unknownED :=
  ⟨rfl, show 1 = lengthOf 0xED#8 ∧ 1 = _ from ⟨rfl, rfl⟩⟩
theorem InstrCoding.rst5 : InstrCoding.Statement .rst5 :=
  ⟨rfl, show 1 = lengthOf 0xEF#8 ∧ 1 = _ from ⟨rfl, rfl⟩⟩
theorem InstrCoding.rp : InstrCoding.Statement .rp :=
  ⟨rfl, show 1 = lengthOf 0xF0#8 ∧ 1 = _ from ⟨rfl, rfl⟩⟩
theorem InstrCoding.popPsw : InstrCoding.Statement .popPsw :=
  ⟨rfl, show 1 = lengthOf 0xF1#8 ∧ 1 = _ from ⟨rfl, rfl⟩⟩
theorem InstrCoding.di : InstrCoding.Statement .di :=
  ⟨rfl, show 1 = lengthOf 0xF3#8 ∧ 1 = _ from ⟨rfl, rfl⟩⟩
theorem InstrCoding.pushPsw : InstrCoding.Statement .pushPsw :=
  ⟨rfl, show 1 = lengthOf 0xF5#8 ∧ 1 = _ from ⟨rfl, rfl⟩⟩
theorem InstrCoding.rst6 : InstrCoding.Statement .rst6 :=
  ⟨rfl, show 1 = lengthOf 0xF7#8 ∧ 1 = _ from ⟨rfl, rfl⟩⟩
theorem InstrCoding.rm : InstrCoding.Statement .rm :=
  ⟨rfl, show 1 = lengthOf 0xF8#8 ∧ 1 = _ from ⟨rfl, rfl⟩⟩
theorem InstrCoding.sphl : InstrCoding.Statement .sphl :=
  ⟨rfl, show 1 = lengthOf 0xF9#8 ∧ 1 = _ from ⟨rfl, rfl⟩⟩
theorem InstrCoding.ei : InstrCoding.Statement .ei :=
  ⟨rfl, show 1 = lengthOf 0xFB#8 ∧ 1 = _ from ⟨rfl, rfl⟩⟩
theorem InstrCoding.unknownFD : InstrCoding.Statement .unknownFD :=
  ⟨rfl, show 1 = lengthOf 0xFD#8 ∧ 1 = _ from ⟨rfl, rfl⟩⟩
theorem InstrCoding.rst7 : InstrCoding.Statement .rst7 :=
  ⟨rfl, show 1 = lengthOf 0xFF#8 ∧ 1 = _ from ⟨rfl, rfl⟩⟩

end Sys2Proof.Laws
end

