-- ==== Sys2Proof/Laws/ByForm.lean ====
section
/-! SUPPORT. What exec does, said once per FORM: a proof about all 256 rows cites `exec_eq_effect` and splits on the
55 forms, not on the rows. The meanings themselves are the definitions of Machine/<Family>.lean. -/

namespace Sys2Proof.Machine

/-- The meaning of an accumulator operation on a source value. -/
def aluEffect (i : Instr) : AluOp → Byte → State → Result
  | .add, v, s => addToA i v false s
  | .adc, v, s => addToA i v s.flags.cy s
  | .sub, v, s => subFromA i v false s
  | .sbb, v, s => subFromA i v s.flags.cy s
  | .ana, v, s => logicToA i (s.a &&& v) s
  | .xra, v, s => logicToA i (s.a ^^^ v) s
  | .ora, v, s => logicToA i (s.a ||| v) s
  | .cmp, v, s => compareWithA i v s

/-- The meaning of the row `i` by its form. -/
def effect (i : Instr) : Form → State → Result
  | .nop, s | .nopDup _, s | .hlt, s | .rst _, s | .inPort _, s | .outPort _, s | .ei, s | .di, s => finish i s
  | .movRegReg dst r, s => loadReg i dst (s.reg r) s
  | .movRegM dst, s => loadReg i dst s.readM s
  | .movMReg r, s => storeM i (s.reg r) s
  | .mviReg dst d8, s => loadReg i dst d8 s
  | .mviM d8, s => storeM i d8 s
  | .lxi p d16, s => finish i (s.setPair p d16)
  | .lda a16, s => loadReg i .a (s.readByte a16) s
  | .sta a16, s => finish i (s.writeByte a16 s.a)
  | .lhld a16, s => finish i (s.setHl (s.readWord a16))
  | .shld a16, s => finish i (s.writeWord a16 s.hl)
  | .ldax x, s => loadReg i .a (s.readByte (s.indexAddr x)) s
  | .stax x, s => finish i (s.writeByte (s.indexAddr x) s.a)
  | .alu o src, s => aluEffect i o (s.source src) s
  | .inrReg r, s => incrementReg i r s
  | .inrM, s => incrementM i s
  | .dcrReg r, s => decrementReg i r s
  | .dcrM, s => decrementM i s
  | .inx p, s => finish i (s.setPair p (s.pair p + 1#16))
  | .dcx p, s => finish i (s.setPair p (s.pair p - 1#16))
  | .dad p, s => addToHl i (s.pair p) s
  | .daa, s => finish i ((s.setA (daaResult s.a s.flags.cy s.flags.ac)).setFlags (s.flags.decimal s.a))
  | .rlc, s => rotateA i (rotateLeftIn s.a (s.a.getLsbD 7)) (s.a.getLsbD 7) s
  | .rrc, s => rotateA i (rotateRightIn s.a (s.a.getLsbD 0)) (s.a.getLsbD 0) s
  | .ral, s => rotateA i (rotateLeftIn s.a s.flags.cy) (s.a.getLsbD 7) s
  | .rar, s => rotateA i (rotateRightIn s.a s.flags.cy) (s.a.getLsbD 0) s
  | .cma, s => finish i (s.setA (~~~s.a))
  | .stc, s => finish i (s.setCy true)
  | .cmc, s => finish i (s.setCy (!s.flags.cy))
  | .jmp a16, s => transfer i false a16 s
  | .jcc cond a16, s => jumpIf i cond a16 s
  | .call a16, s => callTo i false a16 s
  | .ccc cond a16, s => callIf i cond a16 s
  | .ret, s => returnFrom i false s
  | .rcc cond, s => returnIf i cond s
  | .push p, s => finish i (s.push16 (s.pair p.toPair))
  | .pop p, s => finish i (s.popped.setPair p.toPair s.top16)
  | .pushPsw, s => finish i (s.push16 s.psw)
  | .popPsw, s => finish i (s.popped.setPsw s.top16)
  | .xchg, s => finish i ((s.setPair .de s.hl).setHl s.de)
  | .xthl, s => finish i ((s.writeWord s.sp s.hl).setHl s.top16)
  | .pchl, s => transfer i false s.hl s
  | .sphl, s => finish i (s.setSp s.hl)
  | .unknown _, s => reportDecodeError i s

/-- Every arm of exec is the effect of its form. -/
theorem exec_eq_effect (i : Instr) (s : State) : exec i s = effect i i.form s := by
  cases i <;> rfl

/-- Naming a row by its form and reading the form back gives it. -/
@[simp] theorem form_ofForm (f : Form) : (Instr.ofForm f).form = f := by
  cases f with
  | nopDup k => revert k; decide
  | rst n => revert n; decide
  | unknown k => revert k; decide
  | alu o src => cases src <;> cases o <;> first | rfl | (rename_i r; cases r <;> rfl)
  | movRegReg dst r => cases dst <;> cases r <;> rfl
  | movRegM dst => cases dst <;> rfl
  | movMReg r => cases r <;> rfl
  | mviReg dst v => cases dst <;> rfl
  | lxi p v => cases p <;> rfl
  | ldax x => cases x <;> rfl
  | stax x => cases x <;> rfl
  | inrReg r => cases r <;> rfl
  | dcrReg r => cases r <;> rfl
  | inx p => cases p <;> rfl
  | dcx p => cases p <;> rfl
  | dad p => cases p <;> rfl
  | jcc cond a => cases cond <;> rfl
  | ccc cond a => cases cond <;> rfl
  | rcc cond => cases cond <;> rfl
  | push p => cases p <;> rfl
  | pop p => cases p <;> rfl
  | _ => rfl

/-- A row named by its form runs by that form. -/
theorem exec_ofForm (f : Form) (s : State) : exec (Instr.ofForm f) s = effect (Instr.ofForm f) f s := by
  rw [exec_eq_effect, form_ofForm]

/-- The next address after a row named by its form. -/
@[simp] theorem nextPc_ofForm (f : Form) (s : State) :
    s.nextPc (Instr.ofForm f) = s.pc + BitVec.ofNat 16 f.length := by
  rw [State.nextPc, form_ofForm]

end Sys2Proof.Machine
end

