-- ==== Sys2Proof/Tests/Slice0.lean ====
section
/-! SUPPORT. The model's own tests. Words of the decode tests are written out bit by bit from the formats of rules
R61 to R69 (quadrant, fields, column); expected results of the execution tests are rows of spec/95_test_vectors.md,
named in each docstring. Last come the witnesses: states and operands that meet the hypotheses of the obligations. -/

namespace Sys2Proof.Tests

open Sys2Proof.Machine Sys2Proof.Claims

/-! ### Source lines -/

/-- Well-formed lines, one of each operand shape. -/
theorem test_source_lines_accepted :
    SourceLine.check ⟨.mov, [.a, .m]⟩ = .ok (.movRegM .a) ∧
    SourceLine.check ⟨.mvi, [.m, .num 255]⟩ = .ok (.mviM 0xFF#8) ∧
    SourceLine.check ⟨.lxi, [.sp, .num 0x2400]⟩ = .ok (.lxi .sp 0x2400#16) ∧
    SourceLine.check ⟨.push, [.psw]⟩ = .ok .pushPsw ∧
    SourceLine.check ⟨.rst, [.num 7]⟩ = .ok (.rst 7) ∧
    SourceLine.check ⟨.aluImm .cmp, [.num 0x40]⟩ = .ok (.alu .cmp (.imm 0x40#8)) := by decide

/-- An operand too few, one too many, one of the wrong kind (R73). -/
theorem test_wrong_operands_refused :
    SourceLine.check ⟨.alu .add, []⟩ = .error .wrongOperands ∧
    SourceLine.check ⟨.ret, [.a]⟩ = .error .wrongOperands ∧
    SourceLine.check ⟨.lda, [.b]⟩ = .error .wrongOperands := by decide

/-- MOV M,M (R152). -/
theorem test_memory_to_memory_refused : SourceLine.check ⟨.mov, [.m, .m]⟩ = .error .memoryToMemory := by decide

/-- PUSH SP and POP SP (R63). -/
theorem test_push_sp_refused :
    SourceLine.check ⟨.push, [.sp]⟩ = .error .stackPointerPushed ∧
    SourceLine.check ⟨.pop, [.sp]⟩ = .error .stackPointerPushed := by decide

/-- DAD PSW (R63). -/
theorem test_psw_as_pair_refused : SourceLine.check ⟨.dad, [.psw]⟩ = .error .pswAsPair := by decide

/-- LDAX H and STAX SP (R158, R159). -/
theorem test_index_pair_refused :
    SourceLine.check ⟨.ldax, [.h]⟩ = .error .noSuchIndexPair ∧
    SourceLine.check ⟨.stax, [.sp]⟩ = .error .noSuchIndexPair := by decide

/-- MVI with 256 and JMP with 65536 (R65). -/
theorem test_wide_number_refused :
    SourceLine.check ⟨.mvi, [.b, .num 256]⟩ = .error .numberTooWide ∧
    SourceLine.check ⟨.jmp, [.num 65536]⟩ = .error .numberTooWide := by decide

/-- RST 8 (R224). -/
theorem test_restart_refused : SourceLine.check ⟨.rst, [.num 8]⟩ = .error .noSuchRestart := by decide

/-! ### Decoding, every row -/

/-- What a whole byte string decodes to, if it is exactly one instruction. -/
def reads (bytes : List Byte) : Option Instr :=
  match decode bytes with
  | .ok (i, []) => some i
  | .ok (_, _ :: _) => none
  | .error _ => none

/-- Quadrant 00, column 000: NOP and the seven duplicates (R66). -/
theorem test_decode_nop_column :
    reads [0b00_000_000#8] = some .nop ∧
    reads [0b00_001_000#8] = some .nopDup08 ∧
    reads [0b00_010_000#8] = some .nopDup10 ∧
    reads [0b00_011_000#8] = some .nopDup18 ∧
    reads [0b00_100_000#8] = some .nopDup20 ∧
    reads [0b00_101_000#8] = some .nopDup28 ∧
    reads [0b00_110_000#8] = some .nopDup30 ∧
    reads [0b00_111_000#8] = some .nopDup38 := by decide

/-- Quadrant 00, column 001: LXI (`pp 0`) and DAD (`pp 1`). -/
theorem test_decode_lxi_dad :
    reads [0b00_00_0_001#8, 0x34#8, 0x12#8] = some (.lxiB 0x1234#16) ∧
    reads [0b00_00_1_001#8] = some .dadB ∧
    reads [0b00_01_0_001#8, 0x34#8, 0x12#8] = some (.lxiD 0x1234#16) ∧
    reads [0b00_01_1_001#8] = some .dadD ∧
    reads [0b00_10_0_001#8, 0x34#8, 0x12#8] = some (.lxiH 0x1234#16) ∧
    reads [0b00_10_1_001#8] = some .dadH ∧
    reads [0b00_11_0_001#8, 0x34#8, 0x12#8] = some (.lxiSp 0x1234#16) ∧
    reads [0b00_11_1_001#8] = some .dadSp := by decide

/-- Quadrant 00, column 010: STAX, LDAX, SHLD, LHLD, STA, LDA. -/
theorem test_decode_transfers :
    reads [0b00_000_010#8] = some .staxB ∧
    reads [0b00_001_010#8] = some .ldaxB ∧
    reads [0b00_010_010#8] = some .staxD ∧
    reads [0b00_011_010#8] = some .ldaxD ∧
    reads [0b00_100_010#8, 0x34#8, 0x12#8] = some (.shld 0x1234#16) ∧
    reads [0b00_101_010#8, 0x34#8, 0x12#8] = some (.lhld 0x1234#16) ∧
    reads [0b00_110_010#8, 0x34#8, 0x12#8] = some (.sta 0x1234#16) ∧
    reads [0b00_111_010#8, 0x34#8, 0x12#8] = some (.lda 0x1234#16) := by decide

/-- Quadrant 00, column 011: INX (`pp 0`) and DCX (`pp 1`). -/
theorem test_decode_inx_dcx :
    reads [0b00_00_0_011#8] = some .inxB ∧
    reads [0b00_00_1_011#8] = some .dcxB ∧
    reads [0b00_01_0_011#8] = some .inxD ∧
    reads [0b00_01_1_011#8] = some .dcxD ∧
    reads [0b00_10_0_011#8] = some .inxH ∧
    reads [0b00_10_1_011#8] = some .dcxH ∧
    reads [0b00_11_0_011#8] = some .inxSp ∧
    reads [0b00_11_1_011#8] = some .dcxSp := by decide

/-- Quadrant 00, column 100: INR by `ddd`. -/
theorem test_decode_inr :
    reads [0b00_000_100#8] = some .inrB ∧
    reads [0b00_001_100#8] = some .inrC ∧
    reads [0b00_010_100#8] = some .inrD ∧
    reads [0b00_011_100#8] = some .inrE ∧
    reads [0b00_100_100#8] = some .inrH ∧
    reads [0b00_101_100#8] = some .inrL ∧
    reads [0b00_110_100#8] = some .inrM ∧
    reads [0b00_111_100#8] = some .inrA := by decide

/-- Quadrant 00, column 101: DCR by `ddd`. -/
theorem test_decode_dcr :
    reads [0b00_000_101#8] = some .dcrB ∧
    reads [0b00_001_101#8] = some .dcrC ∧
    reads [0b00_010_101#8] = some .dcrD ∧
    reads [0b00_011_101#8] = some .dcrE ∧
    reads [0b00_100_101#8] = some .dcrH ∧
    reads [0b00_101_101#8] = some .dcrL ∧
    reads [0b00_110_101#8] = some .dcrM ∧
    reads [0b00_111_101#8] = some .dcrA := by decide

/-- Quadrant 00, column 110: MVI by `ddd`, then the immediate byte. -/
theorem test_decode_mvi :
    reads [0b00_000_110#8, 0x5A#8] = some (.mviB 0x5A#8) ∧
    reads [0b00_001_110#8, 0x5A#8] = some (.mviC 0x5A#8) ∧
    reads [0b00_010_110#8, 0x5A#8] = some (.mviD 0x5A#8) ∧
    reads [0b00_011_110#8, 0x5A#8] = some (.mviE 0x5A#8) ∧
    reads [0b00_100_110#8, 0x5A#8] = some (.mviH 0x5A#8) ∧
    reads [0b00_101_110#8, 0x5A#8] = some (.mviL 0x5A#8) ∧
    reads [0b00_110_110#8, 0x5A#8] = some (.mviM 0x5A#8) ∧
    reads [0b00_111_110#8, 0x5A#8] = some (.mviA 0x5A#8) := by decide

/-- Quadrant 00, column 111: rotates, DAA, CMA, STC, CMC. -/
theorem test_decode_rotate_column :
    reads [0b00_000_111#8] = some .rlc ∧
    reads [0b00_001_111#8] = some .rrc ∧
    reads [0b00_010_111#8] = some .ral ∧
    reads [0b00_011_111#8] = some .rar ∧
    reads [0b00_100_111#8] = some .daa ∧
    reads [0b00_101_111#8] = some .cma ∧
    reads [0b00_110_111#8] = some .stc ∧
    reads [0b00_111_111#8] = some .cmc := by decide

/-- Quadrant 01, `ddd` = 000: MOV B by `sss`. -/
theorem test_decode_mov_b :
    reads [0b01_000_000#8] = some .movBB ∧
    reads [0b01_000_001#8] = some .movBC ∧
    reads [0b01_000_010#8] = some .movBD ∧
    reads [0b01_000_011#8] = some .movBE ∧
    reads [0b01_000_100#8] = some .movBH ∧
    reads [0b01_000_101#8] = some .movBL ∧
    reads [0b01_000_110#8] = some .movBM ∧
    reads [0b01_000_111#8] = some .movBA := by decide

/-- Quadrant 01, `ddd` = 001: MOV C by `sss`. -/
theorem test_decode_mov_c :
    reads [0b01_001_000#8] = some .movCB ∧
    reads [0b01_001_001#8] = some .movCC ∧
    reads [0b01_001_010#8] = some .movCD ∧
    reads [0b01_001_011#8] = some .movCE ∧
    reads [0b01_001_100#8] = some .movCH ∧
    reads [0b01_001_101#8] = some .movCL ∧
    reads [0b01_001_110#8] = some .movCM ∧
    reads [0b01_001_111#8] = some .movCA := by decide

/-- Quadrant 01, `ddd` = 010: MOV D by `sss`. -/
theorem test_decode_mov_d :
    reads [0b01_010_000#8] = some .movDB ∧
    reads [0b01_010_001#8] = some .movDC ∧
    reads [0b01_010_010#8] = some .movDD ∧
    reads [0b01_010_011#8] = some .movDE ∧
    reads [0b01_010_100#8] = some .movDH ∧
    reads [0b01_010_101#8] = some .movDL ∧
    reads [0b01_010_110#8] = some .movDM ∧
    reads [0b01_010_111#8] = some .movDA := by decide

/-- Quadrant 01, `ddd` = 011: MOV E by `sss`. -/
theorem test_decode_mov_e :
    reads [0b01_011_000#8] = some .movEB ∧
    reads [0b01_011_001#8] = some .movEC ∧
    reads [0b01_011_010#8] = some .movED ∧
    reads [0b01_011_011#8] = some .movEE ∧
    reads [0b01_011_100#8] = some .movEH ∧
    reads [0b01_011_101#8] = some .movEL ∧
    reads [0b01_011_110#8] = some .movEM ∧
    reads [0b01_011_111#8] = some .movEA := by decide

/-- Quadrant 01, `ddd` = 100: MOV H by `sss`. -/
theorem test_decode_mov_h :
    reads [0b01_100_000#8] = some .movHB ∧
    reads [0b01_100_001#8] = some .movHC ∧
    reads [0b01_100_010#8] = some .movHD ∧
    reads [0b01_100_011#8] = some .movHE ∧
    reads [0b01_100_100#8] = some .movHH ∧
    reads [0b01_100_101#8] = some .movHL ∧
    reads [0b01_100_110#8] = some .movHM ∧
    reads [0b01_100_111#8] = some .movHA := by decide

/-- Quadrant 01, `ddd` = 101: MOV L by `sss`. -/
theorem test_decode_mov_l :
    reads [0b01_101_000#8] = some .movLB ∧
    reads [0b01_101_001#8] = some .movLC ∧
    reads [0b01_101_010#8] = some .movLD ∧
    reads [0b01_101_011#8] = some .movLE ∧
    reads [0b01_101_100#8] = some .movLH ∧
    reads [0b01_101_101#8] = some .movLL ∧
    reads [0b01_101_110#8] = some .movLM ∧
    reads [0b01_101_111#8] = some .movLA := by decide

/-- Quadrant 01, `ddd` = 110: MOV M by `sss`, HLT at 110. -/
theorem test_decode_mov_m :
    reads [0b01_110_000#8] = some .movMB ∧
    reads [0b01_110_001#8] = some .movMC ∧
    reads [0b01_110_010#8] = some .movMD ∧
    reads [0b01_110_011#8] = some .movME ∧
    reads [0b01_110_100#8] = some .movMH ∧
    reads [0b01_110_101#8] = some .movML ∧
    reads [0b01_110_110#8] = some .hlt ∧
    reads [0b01_110_111#8] = some .movMA := by decide

/-- Quadrant 01, `ddd` = 111: MOV A by `sss`. -/
theorem test_decode_mov_a :
    reads [0b01_111_000#8] = some .movAB ∧
    reads [0b01_111_001#8] = some .movAC ∧
    reads [0b01_111_010#8] = some .movAD ∧
    reads [0b01_111_011#8] = some .movAE ∧
    reads [0b01_111_100#8] = some .movAH ∧
    reads [0b01_111_101#8] = some .movAL ∧
    reads [0b01_111_110#8] = some .movAM ∧
    reads [0b01_111_111#8] = some .movAA := by decide

/-- Quadrant 10, `ooo` = 000: ADD by `sss`. -/
theorem test_decode_add :
    reads [0b10_000_000#8] = some .addB ∧
    reads [0b10_000_001#8] = some .addC ∧
    reads [0b10_000_010#8] = some .addD ∧
    reads [0b10_000_011#8] = some .addE ∧
    reads [0b10_000_100#8] = some .addH ∧
    reads [0b10_000_101#8] = some .addL ∧
    reads [0b10_000_110#8] = some .addM ∧
    reads [0b10_000_111#8] = some .addA := by decide

/-- Quadrant 10, `ooo` = 001: ADC by `sss`. -/
theorem test_decode_adc :
    reads [0b10_001_000#8] = some .adcB ∧
    reads [0b10_001_001#8] = some .adcC ∧
    reads [0b10_001_010#8] = some .adcD ∧
    reads [0b10_001_011#8] = some .adcE ∧
    reads [0b10_001_100#8] = some .adcH ∧
    reads [0b10_001_101#8] = some .adcL ∧
    reads [0b10_001_110#8] = some .adcM ∧
    reads [0b10_001_111#8] = some .adcA := by decide

/-- Quadrant 10, `ooo` = 010: SUB by `sss`. -/
theorem test_decode_sub :
    reads [0b10_010_000#8] = some .subB ∧
    reads [0b10_010_001#8] = some .subC ∧
    reads [0b10_010_010#8] = some .subD ∧
    reads [0b10_010_011#8] = some .subE ∧
    reads [0b10_010_100#8] = some .subH ∧
    reads [0b10_010_101#8] = some .subL ∧
    reads [0b10_010_110#8] = some .subM ∧
    reads [0b10_010_111#8] = some .subA := by decide

/-- Quadrant 10, `ooo` = 011: SBB by `sss`. -/
theorem test_decode_sbb :
    reads [0b10_011_000#8] = some .sbbB ∧
    reads [0b10_011_001#8] = some .sbbC ∧
    reads [0b10_011_010#8] = some .sbbD ∧
    reads [0b10_011_011#8] = some .sbbE ∧
    reads [0b10_011_100#8] = some .sbbH ∧
    reads [0b10_011_101#8] = some .sbbL ∧
    reads [0b10_011_110#8] = some .sbbM ∧
    reads [0b10_011_111#8] = some .sbbA := by decide

/-- Quadrant 10, `ooo` = 100: ANA by `sss`. -/
theorem test_decode_ana :
    reads [0b10_100_000#8] = some .anaB ∧
    reads [0b10_100_001#8] = some .anaC ∧
    reads [0b10_100_010#8] = some .anaD ∧
    reads [0b10_100_011#8] = some .anaE ∧
    reads [0b10_100_100#8] = some .anaH ∧
    reads [0b10_100_101#8] = some .anaL ∧
    reads [0b10_100_110#8] = some .anaM ∧
    reads [0b10_100_111#8] = some .anaA := by decide

/-- Quadrant 10, `ooo` = 101: XRA by `sss`. -/
theorem test_decode_xra :
    reads [0b10_101_000#8] = some .xraB ∧
    reads [0b10_101_001#8] = some .xraC ∧
    reads [0b10_101_010#8] = some .xraD ∧
    reads [0b10_101_011#8] = some .xraE ∧
    reads [0b10_101_100#8] = some .xraH ∧
    reads [0b10_101_101#8] = some .xraL ∧
    reads [0b10_101_110#8] = some .xraM ∧
    reads [0b10_101_111#8] = some .xraA := by decide

/-- Quadrant 10, `ooo` = 110: ORA by `sss`. -/
theorem test_decode_ora :
    reads [0b10_110_000#8] = some .oraB ∧
    reads [0b10_110_001#8] = some .oraC ∧
    reads [0b10_110_010#8] = some .oraD ∧
    reads [0b10_110_011#8] = some .oraE ∧
    reads [0b10_110_100#8] = some .oraH ∧
    reads [0b10_110_101#8] = some .oraL ∧
    reads [0b10_110_110#8] = some .oraM ∧
    reads [0b10_110_111#8] = some .oraA := by decide

/-- Quadrant 10, `ooo` = 111: CMP by `sss`. -/
theorem test_decode_cmp :
    reads [0b10_111_000#8] = some .cmpB ∧
    reads [0b10_111_001#8] = some .cmpC ∧
    reads [0b10_111_010#8] = some .cmpD ∧
    reads [0b10_111_011#8] = some .cmpE ∧
    reads [0b10_111_100#8] = some .cmpH ∧
    reads [0b10_111_101#8] = some .cmpL ∧
    reads [0b10_111_110#8] = some .cmpM ∧
    reads [0b10_111_111#8] = some .cmpA := by decide

/-- Quadrant 11, column 000: the conditional returns by `ccc`. -/
theorem test_decode_rcc :
    reads [0b11_000_000#8] = some .rnz ∧
    reads [0b11_001_000#8] = some .rz ∧
    reads [0b11_010_000#8] = some .rnc ∧
    reads [0b11_011_000#8] = some .rc ∧
    reads [0b11_100_000#8] = some .rpo ∧
    reads [0b11_101_000#8] = some .rpe ∧
    reads [0b11_110_000#8] = some .rp ∧
    reads [0b11_111_000#8] = some .rm := by decide

/-- Quadrant 11, column 001: POP (`pp 0`), RET, PCHL, SPHL and an unknown byte. -/
theorem test_decode_pop_column :
    reads [0b11_00_0_001#8] = some .popB ∧
    reads [0b11_01_0_001#8] = some .popD ∧
    reads [0b11_10_0_001#8] = some .popH ∧
    reads [0b11_11_0_001#8] = some .popPsw ∧
    reads [0b11_00_1_001#8] = some .ret ∧
    reads [0b11_01_1_001#8] = some .unknownD9 ∧
    reads [0b11_10_1_001#8] = some .pchl ∧
    reads [0b11_11_1_001#8] = some .sphl := by decide

/-- Quadrant 11, column 010: the conditional jumps by `ccc`. -/
theorem test_decode_jcc :
    reads [0b11_000_010#8, 0x34#8, 0x12#8] = some (.jnz 0x1234#16) ∧
    reads [0b11_001_010#8, 0x34#8, 0x12#8] = some (.jz 0x1234#16) ∧
    reads [0b11_010_010#8, 0x34#8, 0x12#8] = some (.jnc 0x1234#16) ∧
    reads [0b11_011_010#8, 0x34#8, 0x12#8] = some (.jc 0x1234#16) ∧
    reads [0b11_100_010#8, 0x34#8, 0x12#8] = some (.jpo 0x1234#16) ∧
    reads [0b11_101_010#8, 0x34#8, 0x12#8] = some (.jpe 0x1234#16) ∧
    reads [0b11_110_010#8, 0x34#8, 0x12#8] = some (.jp 0x1234#16) ∧
    reads [0b11_111_010#8, 0x34#8, 0x12#8] = some (.jm 0x1234#16) := by decide

/-- Quadrant 11, column 011: JMP, an unknown byte, OUT, IN, XTHL, XCHG, DI, EI. -/
theorem test_decode_misc_column :
    reads [0b11_000_011#8, 0x34#8, 0x12#8] = some (.jmp 0x1234#16) ∧
    reads [0b11_001_011#8] = some .unknownCB ∧
    reads [0b11_010_011#8, 0x5A#8] = some (.outPort 0x5A#8) ∧
    reads [0b11_011_011#8, 0x5A#8] = some (.inPort 0x5A#8) ∧
    reads [0b11_100_011#8] = some .xthl ∧
    reads [0b11_101_011#8] = some .xchg ∧
    reads [0b11_110_011#8] = some .di ∧
    reads [0b11_111_011#8] = some .ei := by decide

/-- Quadrant 11, column 100: the conditional calls by `ccc`. -/
theorem test_decode_ccc :
    reads [0b11_000_100#8, 0x34#8, 0x12#8] = some (.cnz 0x1234#16) ∧
    reads [0b11_001_100#8, 0x34#8, 0x12#8] = some (.cz 0x1234#16) ∧
    reads [0b11_010_100#8, 0x34#8, 0x12#8] = some (.cnc 0x1234#16) ∧
    reads [0b11_011_100#8, 0x34#8, 0x12#8] = some (.cc 0x1234#16) ∧
    reads [0b11_100_100#8, 0x34#8, 0x12#8] = some (.cpo 0x1234#16) ∧
    reads [0b11_101_100#8, 0x34#8, 0x12#8] = some (.cpe 0x1234#16) ∧
    reads [0b11_110_100#8, 0x34#8, 0x12#8] = some (.cp 0x1234#16) ∧
    reads [0b11_111_100#8, 0x34#8, 0x12#8] = some (.cm 0x1234#16) := by decide

/-- Quadrant 11, column 101: PUSH (`pp 0`), CALL and three unknown bytes. -/
theorem test_decode_push_column :
    reads [0b11_00_0_101#8] = some .pushB ∧
    reads [0b11_01_0_101#8] = some .pushD ∧
    reads [0b11_10_0_101#8] = some .pushH ∧
    reads [0b11_11_0_101#8] = some .pushPsw ∧
    reads [0b11_00_1_101#8, 0x34#8, 0x12#8] = some (.call 0x1234#16) ∧
    reads [0b11_01_1_101#8] = some .unknownDD ∧
    reads [0b11_10_1_101#8] = some .unknownED ∧
    reads [0b11_11_1_101#8] = some .unknownFD := by decide

/-- Quadrant 11, column 110: the immediate operations by `ooo`. -/
theorem test_decode_immediate_column :
    reads [0b11_000_110#8, 0x5A#8] = some (.adi 0x5A#8) ∧
    reads [0b11_001_110#8, 0x5A#8] = some (.aci 0x5A#8) ∧
    reads [0b11_010_110#8, 0x5A#8] = some (.sui 0x5A#8) ∧
    reads [0b11_011_110#8, 0x5A#8] = some (.sbi 0x5A#8) ∧
    reads [0b11_100_110#8, 0x5A#8] = some (.ani 0x5A#8) ∧
    reads [0b11_101_110#8, 0x5A#8] = some (.xri 0x5A#8) ∧
    reads [0b11_110_110#8, 0x5A#8] = some (.ori 0x5A#8) ∧
    reads [0b11_111_110#8, 0x5A#8] = some (.cpi 0x5A#8) := by decide

/-- Quadrant 11, column 111: RST by `nnn`. -/
theorem test_decode_rst :
    reads [0b11_000_111#8] = some .rst0 ∧
    reads [0b11_001_111#8] = some .rst1 ∧
    reads [0b11_010_111#8] = some .rst2 ∧
    reads [0b11_011_111#8] = some .rst3 ∧
    reads [0b11_100_111#8] = some .rst4 ∧
    reads [0b11_101_111#8] = some .rst5 ∧
    reads [0b11_110_111#8] = some .rst6 ∧
    reads [0b11_111_111#8] = some .rst7 := by decide

/-- A byte string that ends too early is refused by name; every first byte is taken. -/
theorem test_decode_refuses_short_strings :
    decode [] = .error .noBytes ∧ decode [0b11_000_011#8, 0x00#8] = .error (.truncated 0xC3#8) := by decide

/-- Table words number the second byte from bit 8 and the third from bit 16; missing operand bits are 0. -/
theorem test_decode_table_words :
    decodeTableWord 24 0x1234C3 = some (.jmp 0x1234#16) ∧ decodeTableWord 16 0x5A3E = some (.mviA 0x5A#8) ∧
    decodeTableWord 8 0xC3 = some (.jmp 0x0000#16) ∧ decodeTableWord 8 0x80 = some .addB := by decide

/-! ### Execution, one step each -/

/-- One step with the given bytes placed at PC, and what `look` sees in the next state. -/
def after {α : Type} (bytes : List Byte) (s : State) (look : State → α) : Option α :=
  match step (s.load s.pc bytes) with
  | .next t => some (look t)
  | .fault _ => none
  | .refused _ => none

/-- The flags Z, S, P, CY, AC in the order of the vectors. -/
def flagBits (z s p cy ac : Nat) : Flags := ⟨z == 1, s == 1, p == 1, cy == 1, ac == 1⟩

/-- Vector VA2: `ADD C`. -/
theorem test_add_carries_out :
    after [0x81#8] { State.reset with a := 0xFF#8, c := 0x01#8 }
      (fun t => (t.a, t.flags)) = some (0x00#8, flagBits 1 0 1 1 1) := by decide

/-- Vector VA4: `ADD A`. -/
theorem test_add_a_doubles :
    after [0x87#8] { State.reset with a := 0x08#8 }
      (fun t => (t.a, t.flags)) = some (0x10#8, flagBits 0 0 0 0 1) := by decide

/-- Vector VA10: `ADD M`. -/
theorem test_add_m_reads_its_own_byte :
    after [0x86#8] { State.reset with a := 0x01#8, h := 0x01#8 }
      (fun t => t.a) = some (0x87#8) := by decide

/-- Vector VA12: `ADC B`. -/
theorem test_adc_511 :
    after [0x88#8] { State.reset with a := 0xFF#8, b := 0xFF#8, flags := flagBits 0 0 0 1 0 }
      (fun t => (t.a, t.flags)) = some (0xFF#8, flagBits 0 1 1 1 1) := by decide

/-- Vector VA13: `ADC D`. -/
theorem test_adc_carry_alone_reaches_bit_4 :
    after [0x8A#8] { State.reset with a := 0x0F#8, flags := flagBits 0 0 0 1 0 }
      (fun t => (t.a, t.flags)) = some (0x10#8, flagBits 0 0 0 0 1) := by decide

/-- Vector VA15: `ADC M`. -/
theorem test_adc_m :
    after [0x8E#8]
      { State.reset with
        a := 0x3D#8, h := 0x20#8, flags := flagBits 0 0 0 1 0, mem := [(0x2000, 0x42#8)] }
      (fun t => (t.a, t.flags)) = some (0x80#8, flagBits 0 1 0 0 1) := by decide

/-- Vector VA19: `SUB C`. -/
theorem test_sub_borrows :
    after [0x91#8] { State.reset with c := 0x01#8 }
      (fun t => (t.a, t.flags)) = some (0xFF#8, flagBits 0 1 1 1 1) := by decide

/-- Vector VA20: `SUB M`. -/
theorem test_sub_m_half_borrow :
    after [0x96#8] { State.reset with a := 0x10#8, h := 0x20#8, mem := [(0x2000, 0x01#8)] }
      (fun t => (t.a, t.flags)) = some (0x0F#8, flagBits 0 0 1 0 1) := by decide

/-- Vector VA24: `SBB B`. -/
theorem test_sbb_of_256 :
    after [0x98#8] { State.reset with b := 0xFF#8, flags := flagBits 0 0 0 1 0 }
      (fun t => (t.a, t.flags)) = some (0x00#8, flagBits 1 0 1 1 1) := by decide

/-- Vector VA27: `SBB M`. -/
theorem test_sbb_m :
    after [0x9E#8] { State.reset with h := 0x20#8, flags := flagBits 0 0 0 1 0 }
      (fun t => (t.a, t.flags)) = some (0xFF#8, flagBits 0 1 1 1 1) := by decide

/-- Vector VA29: `ADI 0xBE`. -/
theorem test_adi_carries :
    after [0xC6#8, 0xBE#8] { State.reset with a := 0x56#8 }
      (fun t => (t.a, t.flags)) = some (0x14#8, flagBits 0 0 1 1 1) := by decide

/-- Vector VA31: `ACI 0x00`. -/
theorem test_aci_wraps :
    after [0xCE#8, 0x00#8] { State.reset with a := 0xFF#8, flags := flagBits 0 0 0 1 0 }
      (fun t => (t.a, t.flags)) = some (0x00#8, flagBits 1 0 1 1 1) := by decide

/-- Vector VA32: `SUI 0x01`. -/
theorem test_sui_borrows :
    after [0xD6#8, 0x01#8] State.reset
      (fun t => (t.a, t.flags)) = some (0xFF#8, flagBits 0 1 1 1 1) := by decide

/-- Vector VA34: `SBI 0x00`. -/
theorem test_sbi_borrow_alone :
    after [0xDE#8, 0x00#8] { State.reset with flags := flagBits 0 0 0 1 0 }
      (fun t => (t.a, t.flags)) = some (0xFF#8, flagBits 0 1 1 1 1) := by decide

/-- Vector VB2: `ANA A`. -/
theorem test_ana_a_clears_carries :
    after [0xA7#8] { State.reset with a := 0x80#8, flags := flagBits 0 0 0 1 1 }
      (fun t => (t.a, t.flags)) = some (0x80#8, flagBits 0 1 0 0 0) := by decide

/-- Vector VB4: `ANA M`. -/
theorem test_ana_m :
    after [0xA6#8] { State.reset with a := 0xFC#8, h := 0x20#8, mem := [(0x2000, 0x0F#8)] }
      (fun t => (t.a, t.flags)) = some (0x0C#8, flagBits 0 0 1 0 0) := by decide

/-- Vector VB5: `XRA A`. -/
theorem test_xra_a_clears :
    after [0xAF#8] { State.reset with a := 0x5A#8, flags := flagBits 0 1 0 1 1 }
      (fun t => (t.a, t.flags)) = some (0x00#8, flagBits 1 0 1 0 0) := by decide

/-- Vector VB7: `XRA M`. -/
theorem test_xra_m :
    after [0xAE#8] { State.reset with a := 0xFF#8, h := 0x20#8, mem := [(0x2000, 0x0F#8)] }
      (fun t => (t.a, t.flags)) = some (0xF0#8, flagBits 0 1 1 0 0) := by decide

/-- Vector VB8: `ORA C`. -/
theorem test_ora :
    after [0xB1#8] { State.reset with a := 0x33#8, c := 0x0F#8 }
      (fun t => (t.a, t.flags)) = some (0x3F#8, flagBits 0 0 1 0 0) := by decide

/-- Vector VB10: `ORA M`. -/
theorem test_ora_m :
    after [0xB6#8] { State.reset with h := 0x20#8, mem := [(0x2000, 0x80#8)] }
      (fun t => (t.a, t.flags)) = some (0x80#8, flagBits 0 1 0 0 0) := by decide

/-- Vector VB11: `ANI 0x0F`. -/
theorem test_ani_clears_ac :
    after [0xE6#8, 0x0F#8] { State.reset with a := 0x3A#8, flags := flagBits 0 0 0 1 1 }
      (fun t => (t.a, t.flags)) = some (0x0A#8, flagBits 0 0 1 0 0) := by decide

/-- Vector VB14: `XRI 0xFF`. -/
theorem test_xri_writes_flags :
    after [0xEE#8, 0xFF#8] { State.reset with a := 0x51#8 }
      (fun t => (t.a, t.flags)) = some (0xAE#8, flagBits 0 1 0 0 0) := by decide

/-- Vector VB15: `ORI 0x0F`. -/
theorem test_ori :
    after [0xF6#8, 0x0F#8] { State.reset with a := 0xB5#8 }
      (fun t => (t.a, t.flags)) = some (0xBF#8, flagBits 0 1 0 0 0) := by decide

/-- Vector VC2: `CMP E`. -/
theorem test_cmp_less :
    after [0xBB#8] { State.reset with a := 0x02#8, e := 0x05#8 }
      (fun t => (t.a, t.flags)) = some (0x02#8, flagBits 0 1 0 1 1) := by decide

/-- Vector VC5: `CMP M`. -/
theorem test_cmp_m :
    after [0xBE#8] { State.reset with a := 0xE5#8, h := 0x20#8, mem := [(0x2000, 0x05#8)] }
      (fun t => (t.a, t.flags)) = some (0xE5#8, flagBits 0 1 0 0 0) := by decide

/-- Vector VC10: `CMP C`. -/
theorem test_cmp_is_unsigned :
    after [0xB9#8] { State.reset with a := 0x80#8, c := 0x7F#8 }
      (fun t => (t.a, t.flags)) = some (0x80#8, flagBits 0 0 0 0 1) := by decide

/-- Vector VC9: `CPI 0xFF`. -/
theorem test_cpi_borrows :
    after [0xFE#8, 0xFF#8] State.reset
      (fun t => (t.a, t.flags)) = some (0x00#8, flagBits 0 0 0 1 1) := by decide

/-- Vector VD1: `INR C`. -/
theorem test_inr_keeps_carry :
    after [0x0C#8] { State.reset with c := 0x99#8, flags := flagBits 0 0 0 1 0 }
      (fun t => (t.c, t.flags)) = some (0x9A#8, flagBits 0 1 1 1 0) := by decide

/-- Vector VD2: `INR A`. -/
theorem test_inr_wraps :
    after [0x3C#8] { State.reset with a := 0xFF#8 }
      (fun t => (t.a, t.flags)) = some (0x00#8, flagBits 1 0 1 0 1) := by decide

/-- Vector VD8: `INR M`. -/
theorem test_inr_m :
    after [0x34#8] { State.reset with h := 0x20#8, mem := [(0x2000, 0xFF#8)] }
      (fun t => (t.readByte 0x2000#16, t.flags)) = some (0x00#8, flagBits 1 0 1 0 1) := by decide

/-- Vector VD9: `INR M`. -/
theorem test_inr_m_on_itself :
    after [0x34#8] { State.reset with h := 0x01#8 }
      (fun t => t.readByte 0x0100#16) = some (0x35#8) := by decide

/-- Vector VD10: `DCR B`. -/
theorem test_dcr_half_borrow :
    after [0x05#8] { State.reset with b := 0x10#8 }
      (fun t => (t.b, t.flags)) = some (0x0F#8, flagBits 0 0 1 0 1) := by decide

/-- Vector VD12: `DCR A`. -/
theorem test_dcr_wraps_and_keeps_carry :
    after [0x3D#8] { State.reset with flags := flagBits 0 0 0 1 0 }
      (fun t => (t.a, t.flags)) = some (0xFF#8, flagBits 0 1 1 1 1) := by decide

/-- Vector VD18: `DCR M`. -/
theorem test_dcr_m :
    after [0x35#8] { State.reset with h := 0x20#8, mem := [(0x2000, 0x01#8)] }
      (fun t => (t.readByte 0x2000#16, t.flags)) = some (0x00#8, flagBits 1 0 1 0 0) := by decide

/-- Vector VD19: `INX D`. -/
theorem test_inx_carries_into_d :
    after [0x13#8] { State.reset with d := 0x38#8, e := 0xFF#8 }
      (fun t => (t.d, t.e)) = some (0x39#8, 0x00#8) := by decide

/-- Vector VD20: `INX SP`. -/
theorem test_inx_sp_wraps :
    after [0x33#8] { State.reset with sp := 0xFFFF#16 }
      (fun t => (t.sp, t.flags)) = some (0x0000#16, flagBits 0 0 0 0 0) := by decide

/-- Vector VD23: `DCX H`. -/
theorem test_dcx_borrows_from_h :
    after [0x2B#8] { State.reset with h := 0x98#8 }
      (fun t => (t.h, t.l)) = some (0x97#8, 0xFF#8) := by decide

/-- Vector VD26: `DCX SP`. -/
theorem test_dcx_sp_wraps :
    after [0x3B#8] State.reset
      (fun t => (t.sp, t.flags)) = some (0xFFFF#16, flagBits 0 0 0 0 0) := by decide

/-- Vector VD28: `DAD D`. -/
theorem test_dad_carry_and_no_zero_flag :
    after [0x19#8] { State.reset with e := 0x01#8, h := 0xFF#8, l := 0xFF#8 }
      (fun t => (t.h, t.l, t.flags)) = some (0x00#8, 0x00#8, flagBits 0 0 0 1 0) := by decide

/-- Vector VD31: `DAD SP`. -/
theorem test_dad_sp :
    after [0x39#8] { State.reset with l := 0x10#8, sp := 0x2400#16 }
      (fun t => (t.h, t.l, t.sp)) = some (0x24#8, 0x10#8, 0x2400#16) := by decide

/-- Vector VE1: `MOV A,E`. -/
theorem test_mov_a_e :
    after [0x7B#8] { State.reset with e := 0x2B#8 }
      (fun t => (t.a, t.e)) = some (0x2B#8, 0x2B#8) := by decide

/-- Vector VE9: `MOV H,M`. -/
theorem test_mov_h_m_uses_old_hl :
    after [0x66#8] { State.reset with h := 0x2B#8, l := 0xE9#8, mem := [(0x2BE9, 0xFF#8)] }
      (fun t => (t.h, t.l)) = some (0xFF#8, 0xE9#8) := by decide

/-- Vector VE14: `MOV M,H`. -/
theorem test_mov_m_h :
    after [0x74#8] { State.reset with h := 0x20#8, l := 0x10#8 }
      (fun t => t.readByte 0x2010#16) = some (0x20#8) := by decide

/-- Vector VE16: `MOV M,B`. -/
theorem test_mov_m_onto_next_byte :
    after [0x70#8] { State.reset with b := 0xC9#8, h := 0x01#8, l := 0x01#8 }
      (fun t => t.readByte 0x0101#16) = some (0xC9#8) := by decide

/-- Vector VE17: `MVI A,0x05`. -/
theorem test_mvi_a :
    after [0x3E#8, 0x05#8] State.reset
      (fun t => (t.a, t.pc)) = some (0x05#8, 0x0102#16) := by decide

/-- Vector VE25: `MVI M,0xAA`. -/
theorem test_mvi_m_onto_its_opcode :
    after [0x36#8, 0xAA#8] { State.reset with h := 0x01#8 }
      (fun t => (t.readByte 0x0100#16, t.pc)) = some (0xAA#8, 0x0102#16) := by decide

/-- Vector VE26: `LXI H,0x0103`. -/
theorem test_lxi_h_low_byte_first :
    after [0x21#8, 0x03#8, 0x01#8] State.reset
      (fun t => (t.h, t.l, t.pc)) = some (0x01#8, 0x03#8, 0x0103#16) := by decide

/-- Vector VE29: `LXI SP,0x2400`. -/
theorem test_lxi_sp :
    after [0x31#8, 0x00#8, 0x24#8] State.reset
      (fun t => t.sp) = some (0x2400#16) := by decide

/-- Vector VE30: `LDA 0x0300`. -/
theorem test_lda :
    after [0x3A#8, 0x00#8, 0x03#8] { State.reset with mem := [(0x0300, 0x7C#8)] }
      (fun t => (t.a, t.pc)) = some (0x7C#8, 0x0103#16) := by decide

/-- Vector VE32: `STA 0x0200`. -/
theorem test_sta :
    after [0x32#8, 0x00#8, 0x02#8] { State.reset with a := 0x08#8 }
      (fun t => t.readByte 0x0200#16) = some (0x08#8) := by decide

/-- Vector VE34: `LDAX B`. -/
theorem test_ldax_b :
    after [0x0A#8] { State.reset with b := 0x3F#8, c := 0x16#8, mem := [(0x3F16, 0x4D#8)] }
      (fun t => t.a) = some (0x4D#8) := by decide

/-- Vector VE35: `LDAX D`. -/
theorem test_ldax_d :
    after [0x1A#8] { State.reset with d := 0x93#8, e := 0x8B#8, mem := [(0x938B, 0x4D#8)] }
      (fun t => t.a) = some (0x4D#8) := by decide

/-- Vector VE36: `STAX B`. -/
theorem test_stax_b :
    after [0x02#8] { State.reset with a := 0xA5#8, b := 0x3F#8, c := 0x16#8 }
      (fun t => t.readByte 0x3F16#16) = some (0xA5#8) := by decide

/-- Vector VE37: `STAX D`. -/
theorem test_stax_d :
    after [0x12#8] { State.reset with a := 0x5A#8 }
      (fun t => t.readByte 0x0000#16) = some (0x5A#8) := by decide

/-- Vector VE39: `LHLD 0xFFFF`. -/
theorem test_lhld_wraps :
    after [0x2A#8, 0xFF#8, 0xFF#8] { State.reset with mem := [(0x0000, 0x22#8), (0xFFFF, 0x11#8)] }
      (fun t => (t.h, t.l)) = some (0x22#8, 0x11#8) := by decide

/-- Vector VE41: `SHLD 0xFFFF`. -/
theorem test_shld_wraps :
    after [0x22#8, 0xFF#8, 0xFF#8] { State.reset with h := 0xAE#8, l := 0x29#8 }
      (fun t => (t.readByte 0xFFFF#16, t.readByte 0x0000#16)) = some (0x29#8, 0xAE#8) := by decide

/-- Vector VK3: `PUSH H`. -/
theorem test_push_h_across_zero :
    after [0xE5#8] { State.reset with h := 0xBE#8, l := 0xEF#8, sp := 0x0001#16 }
      (fun t => (t.sp, t.readByte 0xFFFF#16, t.readByte 0x0000#16)) = some (0xFFFF#16, 0xEF#8, 0xBE#8) := by decide

/-- Vector VK1: `PUSH D`. -/
theorem test_push_d_high_byte_first :
    after [0xD5#8] { State.reset with d := 0x8F#8, e := 0x9D#8, sp := 0x3A2C#16 }
      (fun t => (t.readByte 0x3A2B#16, t.readByte 0x3A2A#16)) = some (0x8F#8, 0x9D#8) := by decide

/-- Vector VK5: `POP B`. -/
theorem test_pop_b_wraps :
    after [0xC1#8] { State.reset with sp := 0xFFFF#16, mem := [(0x0000, 0x12#8), (0xFFFF, 0x34#8)] }
      (fun t => (t.b, t.c, t.sp)) = some (0x12#8, 0x34#8, 0x0001#16) := by decide

/-- Vector VK4: `POP H`. -/
theorem test_pop_h :
    after [0xE1#8] { State.reset with sp := 0x1239#16, mem := [(0x1239, 0x3D#8), (0x123A, 0x93#8)] }
      (fun t => (t.h, t.l, t.sp)) = some (0x93#8, 0x3D#8, 0x123B#16) := by decide

/-- Vector VK11: `PUSH PSW`. -/
theorem test_push_psw_flag_byte :
    after [0xF5#8] { State.reset with a := 0x12#8, flags := flagBits 1 1 1 1 1, sp := 0x2C02#16 }
      (fun t => t.readByte 0x2C00#16) = some (0xD7#8) := by decide

/-- Vector VK9: `POP PSW`. -/
theorem test_pop_psw :
    after [0xF1#8] { State.reset with sp := 0x2C00#16, mem := [(0x2C00, 0xC3#8), (0x2C01, 0xFF#8)] }
      (fun t => (t.a, t.flags)) = some (0xFF#8, flagBits 1 1 0 1 0) := by decide

/-- Vector VK12: `POP PSW`. -/
theorem test_pop_psw_ignores_fixed_bits :
    after [0xF1#8] { State.reset with sp := 0x2C00#16, mem := [(0x2C00, 0x28#8)] }
      (fun t => t.flags) = some (flagBits 0 0 0 0 0) := by decide

/-- Vector VG1: `JMP 0x3E00`. -/
theorem test_jmp :
    after [0xC3#8, 0x00#8, 0x3E#8] State.reset
      (fun t => t.pc) = some (0x3E00#16) := by decide

/-- Vector VG5: `JNZ 0x2000`. -/
theorem test_jnz_not_taken :
    after [0xC2#8, 0x00#8, 0x20#8] { State.reset with flags := flagBits 1 0 0 0 0 }
      (fun t => t.pc) = some (0x0103#16) := by decide

/-- Vector VG16: `JP 0x2000`. -/
theorem test_jp_taken :
    after [0xF2#8, 0x00#8, 0x20#8] State.reset
      (fun t => t.pc) = some (0x2000#16) := by decide

/-- Vector VG23: `CALL 0x0200`. -/
theorem test_call_over_its_own_operand :
    after [0xCD#8, 0x00#8, 0x02#8] { State.reset with sp := 0x0103#16 }
      (fun t => (t.pc, t.readByte 0x0101#16, t.readByte 0x0102#16)) = some (0x0200#16, 0x03#8, 0x01#8) := by decide

/-- Vector VG24: `CC 0x0300`. -/
theorem test_cc_taken :
    after [0xDC#8, 0x00#8, 0x03#8] { State.reset with flags := flagBits 0 0 0 1 0, sp := 0x2400#16, pc := 0x0150#16 }
      (fun t => (t.pc, t.sp, t.readByte 0x23FE#16)) = some (0x0300#16, 0x23FE#16, 0x53#8) := by decide

/-- Vector VG25: `CC 0x0300`. -/
theorem test_cc_not_taken :
    after [0xDC#8, 0x00#8, 0x03#8] { State.reset with sp := 0x2400#16, pc := 0x0150#16 }
      (fun t => (t.pc, t.sp, t.cycles)) = some (0x0153#16, 0x2400#16, 11#8) := by decide

/-- Vector VG34: `RET`. -/
theorem test_ret_wrapped :
    after [0xC9#8]
      { State.reset with
        sp := 0xFFFF#16, pc := 0x0200#16, mem := [(0x0000, 0x12#8), (0xFFFF, 0x34#8)] }
      (fun t => (t.pc, t.sp)) = some (0x1234#16, 0x0001#16) := by decide

/-- Vector VG36: `RZ`. -/
theorem test_rz_taken :
    after [0xC8#8]
      { State.reset with
        flags := flagBits 1 0 0 0 0, sp := 0x23FE#16, pc := 0x0210#16
        mem := [(0x23FE, 0x03#8), (0x23FF, 0x01#8)] }
      (fun t => (t.pc, t.sp)) = some (0x0103#16, 0x2400#16) := by decide

/-- Vector VG37: `RZ`. -/
theorem test_rz_not_taken :
    after [0xC8#8]
      { State.reset with
        sp := 0x23FE#16, pc := 0x0210#16, mem := [(0x23FE, 0x03#8), (0x23FF, 0x01#8)] }
      (fun t => (t.pc, t.sp)) = some (0x0211#16, 0x23FE#16) := by decide

/-- Vector VH1: `RLC`. -/
theorem test_rlc :
    after [0x07#8] { State.reset with a := 0xF2#8 }
      (fun t => (t.a, t.flags)) = some (0xE5#8, flagBits 0 0 0 1 0) := by decide

/-- Vector VH3: `RLC`. -/
theorem test_rlc_keeps_other_flags :
    after [0x07#8] { State.reset with a := 0x80#8, flags := flagBits 1 1 1 0 1 }
      (fun t => (t.a, t.flags)) = some (0x01#8, flagBits 1 1 1 1 1) := by decide

/-- Vector VH5: `RRC`. -/
theorem test_rrc :
    after [0x0F#8] { State.reset with a := 0x01#8 }
      (fun t => (t.a, t.flags)) = some (0x80#8, flagBits 0 0 0 1 0) := by decide

/-- Vector VH7: `RAL`. -/
theorem test_ral :
    after [0x17#8] { State.reset with a := 0x80#8, flags := flagBits 0 0 0 1 0 }
      (fun t => (t.a, t.flags)) = some (0x01#8, flagBits 0 0 0 1 0) := by decide

/-- Vector VH9: `RAR`. -/
theorem test_rar :
    after [0x1F#8] { State.reset with a := 0x6A#8, flags := flagBits 0 0 0 1 0 }
      (fun t => (t.a, t.flags)) = some (0xB5#8, flagBits 0 0 0 0 0) := by decide

/-- Vector VH11: `CMA`. -/
theorem test_cma_writes_no_flag :
    after [0x2F#8] { State.reset with a := 0x51#8, flags := flagBits 1 0 0 1 0 }
      (fun t => (t.a, t.flags)) = some (0xAE#8, flagBits 1 0 0 1 0) := by decide

/-- Vector VH13: `STC`. -/
theorem test_stc :
    after [0x37#8] State.reset
      (fun t => t.flags) = some (flagBits 0 0 0 1 0) := by decide

/-- Vector VH16: `CMC`. -/
theorem test_cmc :
    after [0x3F#8] { State.reset with flags := flagBits 1 0 0 0 1 }
      (fun t => t.flags) = some (flagBits 1 0 0 1 1) := by decide

/-- Vector VI1: `XCHG`. -/
theorem test_xchg :
    after [0xEB#8] { State.reset with d := 0x33#8, e := 0x55#8, l := 0xFF#8 }
      (fun t => (t.h, t.l, t.d, t.e)) = some (0x33#8, 0x55#8, 0x00#8, 0xFF#8) := by decide

/-- Vector VI3: `XTHL`. -/
theorem test_xthl_wrapped :
    after [0xE3#8]
      { State.reset with
        h := 0x12#8, l := 0x34#8, sp := 0xFFFF#16, mem := [(0x0000, 0xBB#8), (0xFFFF, 0xAA#8)] }
      (fun t => (t.h, t.l, t.readByte 0xFFFF#16, t.readByte 0x0000#16)) = some (0xBB#8, 0xAA#8, 0x34#8, 0x12#8) := by decide

/-- Vector VI4: `PCHL`. -/
theorem test_pchl :
    after [0xE9#8] { State.reset with h := 0x41#8, l := 0x3E#8 }
      (fun t => t.pc) = some (0x413E#16) := by decide

/-- Vector VI6: `SPHL`. -/
theorem test_sphl_advances :
    after [0xF9#8] { State.reset with h := 0x50#8, l := 0x6C#8, pc := 0x0120#16 }
      (fun t => (t.sp, t.pc)) = some (0x506C#16, 0x0121#16) := by decide

/-- Vector S5.1: `DAA`. -/
theorem test_daa_low_only :
    after [0x27#8] { State.reset with a := 0x0F#8 }
      (fun t => (t.a, t.flags)) = some (0x15#8, flagBits 0 0 0 0 1) := by decide

/-- Vector VJ2: `DAA`. -/
theorem test_daa_low_makes_high :
    after [0x27#8] { State.reset with a := 0x9A#8 }
      (fun t => (t.a, t.flags)) = some (0x00#8, flagBits 1 0 1 1 1) := by decide

/-- Vector VJ16: `NOP`. -/
theorem test_nop_wraps :
    after [0x00#8] { State.reset with pc := 0xFFFF#16 }
      (fun t => t.pc) = some (0x0000#16) := by decide

/-- Vector VJ17: `NOP* (0x18)`. -/
theorem test_nop_duplicate :
    after [0x18#8] { State.reset with a := 0x11#8, flags := flagBits 0 0 0 1 0, pc := 0x0200#16 }
      (fun t => (t.pc, t.cycles)) = some (0x0201#16, 4#8) := by decide

/-- Vector VJ20: `HLT`. -/
theorem test_hlt_goes_on :
    after [0x76#8] { State.reset with pc := 0x0105#16 }
      (fun t => t.pc) = some (0x0106#16) := by decide

/-- Vector VJ21: `RST 7`. -/
theorem test_rst_pushes_nothing :
    after [0xFF#8] { State.reset with sp := 0x2400#16, pc := 0x0300#16 }
      (fun t => (t.pc, t.sp)) = some (0x0301#16, 0x2400#16) := by decide

/-- Vector VJ23: `IN 0x01`. -/
theorem test_in_keeps_a :
    after [0xDB#8, 0x01#8] { State.reset with a := 0x55#8, pc := 0x0110#16 }
      (fun t => (t.a, t.pc)) = some (0x55#8, 0x0112#16) := by decide

/-- Vector VJ24: `OUT 0x00`. -/
theorem test_out :
    after [0xD3#8, 0x00#8] { State.reset with a := 0x55#8, pc := 0x0112#16 }
      (fun t => t.pc) = some (0x0114#16) := by decide

/-- Vector VJ25: `EI`. -/
theorem test_ei :
    after [0xFB#8] State.reset
      (fun t => t.pc) = some (0x0101#16) := by decide

/-- Vector VJ26: `DI`. -/
theorem test_di :
    after [0xF3#8] { State.reset with pc := 0x0101#16 }
      (fun t => t.pc) = some (0x0102#16) := by decide

/-- Vector VL1: `MVI A,0x77`. -/
theorem test_fetch_wraps :
    after [0x3E#8, 0x77#8] { State.reset with pc := 0xFFFF#16 }
      (fun t => t.a) = some (0x77#8) := by decide

/-- Vector VL3: `JNZ 0x2000`. -/
theorem test_jump_not_taken_wraps :
    after [0xC2#8, 0x00#8, 0x20#8] { State.reset with flags := flagBits 1 0 0 0 0, pc := 0xFFFE#16 }
      (fun t => t.pc) = some (0x0001#16) := by decide

/-- Vector S8.6: `DB 0xDD`. -/
theorem test_unknown_byte :
    after [0xDD#8, 0x00#8, 0x02#8]
      { State.reset with
        a := 0xAA#8, flags := flagBits 1 0 0 1 0, sp := 0x2400#16, pc := 0x0300#16 }
      (fun t => (t.pc, t.report)) = some (0x0301#16, some ⟨0x0300#16, 0xDD#8⟩) := by decide

/-- A duplicate costs what NOP costs, also where the parameter has an entry for each (R222). -/
theorem test_nop_duplicate_costs_nop :
    after [0x08#8] { State.reset with cyclesParam := [⟨0x08#8, false, 3#8⟩, ⟨0x00#8, false, 9#8⟩] }
      (fun t => t.cycles) = some 9#8 := by decide

/-- The word the host's question places is the one the next step runs, as the first after reset (R20, R75). -/
theorem test_with_fetch_word :
    (match step (State.reset.withFetchWord 16 0x053E) with
      | .next t => some (t.a, t.pc)
      | .fault _ => none
      | .refused _ => none) = some (0x05#8, 0x0102#16) := by decide

/-- S7, DOC's end-to-end example, by the end-of-run convention with a HLT after it (R274, C3). -/
theorem test_end_to_end :
    (runToHlt 4 (State.launch 0x0100#16 [0x3E#8, 0x05#8, 0x06#8, 0x03#8, 0x80#8, 0x76#8])).map
      (fun t => (t.a, t.pc)) = some (0x08#8, 0x0106#16) := by decide

/-! ### Witnesses: the hypotheses of the obligations can be met -/

/-- A state in the middle of a run: ADD B at PC, HL at the byte after it, a byte of data, the flags mixed. -/
def sample : State :=
  { State.reset with
    a := 0x85#8, b := 0x36#8, h := 0x01#8, l := 0x01#8, sp := 0xFFFF#16, flags := flagBits 1 0 1 0 1
    mem := [(0x0100, 0x80#8), (0x2000, 0x5A#8)] }

/-- StepRunsTheDecodedInstruction. -/
theorem witness_step_decoded :
    decode [sample.readByte sample.pc, sample.readByte (sample.pc + 1#16), sample.readByte (sample.pc + 2#16)] =
      .ok (.addB, [0x00#8, 0x00#8]) := by decide

/-- StepRunsTheEncodedInstruction, with the three bytes around the top of memory. -/
theorem witness_step_encoded (k : Nat) (v : Byte) (h : (encode (.lxiH 0x1234#16))[k]? = some v) :
    let s : State := { State.reset with pc := 0xFFFF#16, mem := [(0x0000, 0x34#8), (0x0001, 0x12#8), (0xFFFF, 0x21#8)] }
    s.readByte (s.pc + BitVec.ofNat 16 k) = v := by
  match k, h with
  | 0, h => cases h; decide
  | 1, h => cases h; decide
  | 2, h => cases h; decide
  | k + 3, h => cases h

/-- DataReadOnlyWhereListed: memories that agree at the address ADD M reads and differ elsewhere. -/
theorem witness_data_read :
    (∀ addr ∈ loadedFrom (Instr.addM).form sample,
      Memory.read [(0x0100, 0x80#8), (0x3000, 0x01#8)] addr = sample.mem.read addr) ∧
    sample.mem ≠ [(0x0100, 0x80#8), (0x3000, 0x01#8)] := by
  refine ⟨fun addr h => ?_, by decide⟩
  obtain rfl : addr = sample.hl := by simpa [loadedFrom, Instr.form] using h
  decide

/-- The same machine with other outputs, another mark and another CYCLES. -/
def sampleOutputs : State :=
  { sample with
    cycles := 7#8, report := some ⟨0x0000#16, 0xCB#8⟩, decodeErrorSeen := true
    cyclesParam := [⟨0x80#8, false, 9#8⟩] }

/-- OutputsNeverFeedBack: two different states that are the same machine. -/
theorem witness_same_machine : SameMachine sample sampleOutputs ∧ sample ≠ sampleOutputs := by
  refine ⟨⟨fun r => ?_, rfl, rfl, rfl, rfl⟩, fun h => ?_⟩
  · cases r <;> decide
  · exact absurd (congrArg State.cycles h) (by decide)

/-- StepKeepsMemoryCanonical: a state with listed memory that has the form, and its next state. -/
theorem witness_canonical_step : sample.Inv ∧ ∃ t, step sample = .next t := by
  refine ⟨show sample.mem.wf by decide, ?_⟩
  have h : (match step sample with | .next _ => true | .fault _ => false | .refused _ => false) = true := by decide
  split at h
  · next t ht => exact ⟨t, ht⟩
  · cases h
  · cases h

/-- StoreIsSeenByTheNextFetch: HL is the address after the instruction. -/
theorem witness_store_seen : sample.hl = sample.pc + 1#16 := by decide

/-- DaaAfterAdditionIsTheDecimalSum: packed-BCD operands, and those at the ends of the range. -/
theorem witness_decimal : isDecimal sample.a ∧ isDecimal sample.b ∧ isDecimal 0x00#8 ∧ isDecimal 0x99#8 := by
  unfold isDecimal
  decide

/-- RunEndsJustAfterHlt: a run that ends. -/
theorem witness_run_ends : (runToHlt 2 (State.launch 0x0100#16 [0x00#8, 0x76#8])).isSome = true := by decide

/-- AssemblerReadsBackWhatItWrites: forms with a source line, at the ends of their operand ranges. -/
theorem witness_source :
    (Form.rst 7).source = some ⟨.rst, [.num 7]⟩ ∧ (Form.mviM 0xFF#8).source = some ⟨.mvi, [.m, .num 255]⟩ ∧
    (Form.lxi .sp 0xFFFF#16).source = some ⟨.lxi, [.sp, .num 65535]⟩ := by decide

/-- Conditions: each of the eight holds for some flags and fails for some, so both clauses of the conditional jumps,
calls and returns have cases. -/
theorem witness_conditions (cond : Cond) : (∃ f, condition f cond) ∧ ∃ f, ¬ condition f cond := by
  cases cond <;>
    first
    | exact ⟨⟨flagBits 0 0 0 0 0, rfl⟩, flagBits 1 1 1 1 1, by simp [condition, flagBits]⟩
    | exact ⟨⟨flagBits 1 1 1 1 1, rfl⟩, flagBits 0 0 0 0 0, by simp [condition, flagBits]⟩

/-- FlagsNotListedKeepTheirValue: INR writes no CY, DAD writes no Z, S, P and AC. -/
theorem witness_flags_not_listed :
    (flagsListed (.inrReg .b)).cy = false ∧ (flagsListed (.dad .sp)).z = false ∧
    (flagsListed (.dad .sp)).s = false ∧ (flagsListed (.dad .sp)).p = false ∧
    (flagsListed (.dad .sp)).ac = false := by decide

/-- OutputsOfEveryInstruction: the rows at both ends of the duplicates are in the set of its clause, and NOP is not. -/
theorem witness_nop_duplicates :
    opcode .nopDup08 ∈ Config.nopDupSet ∧ opcode .nopDup38 ∈ Config.nopDupSet ∧
    opcode .nop ∉ Config.nopDupSet := by decide

/-- Frames: a register that is no destination, an address outside the bytes stored, at the wrapping end too; a pair
that is not SP; another address than the host writes. -/
theorem witness_frames :
    Reg.a ∉ destinations (.lxi .hl 0x1234#16) ∧
    0x0001#16 ∉ storedTo (.shld 0xFFFF#16) sample ∧ 0x0000#16 ∈ storedTo (.shld 0xFFFF#16) sample ∧
    Pair.bc ≠ Pair.sp ∧ 0x0001#16 ≠ 0x0000#16 := by decide

end Sys2Proof.Tests
end

/-! PROOFS. The reset state (R20). -/

namespace Sys2Proof.Machine

/-- Every register holds zero at reset (R20). -/
@[simp] theorem State.reg_reset (r : Reg) : State.reset.reg r = 0x00#8 := by
  cases r <;> rfl

/-- Every address reads zero at reset: no byte is listed, so `Memory.read_nil` answers (R20, R41). -/
@[simp] theorem State.readByte_reset (addr : Word) : State.reset.readByte addr = 0x00#8 :=
  Memory.read_nil addr

end Sys2Proof.Machine

namespace Sys2Proof.Proofs

open Machine

/-- Settles O21: the registers and memory by their reset lemmas, the flags, SP and PC by the fields of
`State.reset`. -/
theorem resetStateIsAllZeroButPc : Obligations.ResetStateIsAllZeroButPc :=
  ⟨State.reg_reset, rfl, rfl, rfl, State.readByte_reset⟩

end Sys2Proof.Proofs

/-! PROOFS. ADD and ADC (R100, R101): the flag primitives in the words of the statements, then the two instructions. -/

namespace Sys2Proof.Machine

open Claims

/-! ### Z, S and P of a result (R100) -/

/-- Counting the ones and adding the bits modulo 2 give the same parity (R6, R100). -/
theorem parity8_eq_evenOnes (v : Byte) : parity8 v = evenOnes v := by
  simp only [parity8, onesCount, evenOnes, List.range_succ, List.range_zero, List.nil_append, List.countP_append,
    List.countP_singleton]
  generalize v.getLsbD 0 = b0, v.getLsbD 1 = b1, v.getLsbD 2 = b2, v.getLsbD 3 = b3, v.getLsbD 4 = b4,
    v.getLsbD 5 = b5, v.getLsbD 6 = b6, v.getLsbD 7 = b7
  revert b0 b1 b2 b3 b4 b5 b6 b7
  decide

/-- Bit 7 is set from 128 on (R100). -/
theorem getLsbD_seven_eq_decide (v : Byte) : v.getLsbD 7 = decide (128 ≤ v.toNat) :=
  v.msb_eq_getLsbD_last.symm.trans v.msb_eq_decide

/-- `ZSP(v)` over flags with some CY and AC (R100). -/
theorem Flags.zsp_eq_resultFlags (f : Flags) (v : Byte) : f.zsp v = resultFlags v f.cy f.ac := by
  rw [Flags.zsp, resultFlags, parity8_eq_evenOnes, getLsbD_seven_eq_decide]
  rfl

/-! ### The sum and its flags (R101) -/

@[simp] theorem bit_false : bit false = 0#8 := rfl

@[simp] theorem toNat_bit (c : Bool) : (bit c).toNat = c.toNat := by
  cases c <;> rfl

/-- The sum narrowed at the end is the sum of bytes (R5, R101). -/
theorem addResult_eq (a b : Byte) (cin : Bool) : addResult a b cin = a + b + bit cin := by
  apply BitVec.eq_of_toNat_eq
  simp [addResult]

/-- Its flags, with the carry-in as a byte (R101). -/
theorem addFlags_eq (a b : Byte) (cin : Bool) :
    addFlags a b cin = resultFlags (a + b + bit cin) (decide (a.toNat + b.toNat + (bit cin).toNat > 255))
      (decide (a.toNat % 16 + b.toNat % 16 + (bit cin).toNat > 15)) := by
  rw [addFlags, Flags.zsp_eq_resultFlags, addResult_eq, toNat_bit]

/-! ### The instructions -/

/-- An accumulator instruction is as long as its operand form says (R61). -/
theorem ofNat_length_alu (o : AluOp) (src : Src) :
    BitVec.ofNat 16 (Form.alu o src).length = sourceLength src := by
  cases src <;> rfl

/-- `finish` in the words of the statements: PC past the row and the outputs of a step without a report (R17, R76). -/
theorem finish_ofForm (f : Form) (t : State) :
    finish (Instr.ofForm f) t = .next (ended f false (t.pc + BitVec.ofNat 16 f.length) t) := by
  rw [finish, nextPc_ofForm]
  rfl

/-- The addition a row of accumulator form makes: A and the five flags by Add8, PC past the operand (R101). -/
theorem addToA_ofForm (o : AluOp) (src : Src) (v : Byte) (cin : Bool) (s : State) :
    addToA (Instr.ofForm (.alu o src)) v cin s =
      .next (ended (.alu o src) false (s.pc + sourceLength src) { s with
        a := s.a + v + bit cin
        flags := resultFlags (s.a + v + bit cin) (decide (s.a.toNat + v.toNat + (bit cin).toNat > 255))
          (decide (s.a.toNat % 16 + v.toNat % 16 + (bit cin).toNat > 15)) }) := by
  rw [addToA, finish_ofForm, ofNat_length_alu, addResult_eq, addFlags_eq]
  rfl

end Sys2Proof.Machine

namespace Sys2Proof.Proofs

open Machine

/-- Settles O23: both rows are an addition to A, ADD with carry-in 0, which adds nothing to the sums, and ADC with
carry-in CY. -/
theorem additionWritesSumAndFlags : Obligations.AdditionWritesSumAndFlags := by
  intro src s
  constructor
  · have h := addToA_ofForm .add src (s.source src) false s
    simp only [bit_false, BitVec.add_zero, BitVec.toNat_zero, Nat.add_zero] at h
    exact (exec_ofForm _ s).trans h
  · exact (exec_ofForm _ s).trans (addToA_ofForm .adc src (s.source src) s.flags.cy s)

end Sys2Proof.Proofs

/-! PROOFS. ANA, XRA and ORA (R120): the flags of `Logic8` in the words of the statements, then the three
instructions. -/

namespace Sys2Proof.Machine

open Claims

/-- `Logic8(r)` is `ZSP(r)` with CY and AC 0 (R100, R120). -/
theorem logicFlags_eq (r : Byte) : logicFlags r = resultFlags r false false :=
  Flags.zsp_eq_resultFlags Flags.clear r

/-- The end of a logical row of accumulator form: A and the five flags by Logic8, PC past the operand (R120). -/
theorem logicToA_ofForm (o : AluOp) (src : Src) (r : Byte) (s : State) :
    logicToA (Instr.ofForm (.alu o src)) r s =
      .next (ended (.alu o src) false (s.pc + sourceLength src)
        { s with a := r, flags := resultFlags r false false }) := by
  rw [logicToA, finish_ofForm, ofNat_length_alu, logicFlags_eq]
  rfl

end Sys2Proof.Machine

namespace Sys2Proof.Proofs

open Machine

/-- Settles O25: each row hands its bitwise result to the shared end of the logical rows, which clears CY and AC. -/
theorem logicClearsCarries : Obligations.LogicClearsCarries := by
  intro src s
  refine ⟨?ana, ?xra, ?ora⟩
  case ana => exact (exec_ofForm _ s).trans (logicToA_ofForm .ana src (s.a &&& s.source src) s)
  case xra => exact (exec_ofForm _ s).trans (logicToA_ofForm .xra src (s.a ^^^ s.source src) s)
  case ora => exact (exec_ofForm _ s).trans (logicToA_ofForm .ora src (s.a ||| s.source src) s)

end Sys2Proof.Proofs

/-! PROOFS. INX, DCX and DAD (R139 to R141): what a write of a register pair leaves unchanged, then the three
instructions. -/

namespace Sys2Proof.Machine

open Claims

/-! ### The end of a step keeps registers and pairs (R76) -/

@[simp] theorem reg_ended (f : Form) (taken : Bool) (pc : Word) (t : State) (q : Reg) :
    (ended f taken pc t).reg q = t.reg q := by
  cases q <;> rfl

@[simp] theorem pair_ended (f : Form) (taken : Bool) (pc : Word) (t : State) (p : Pair) :
    (ended f taken pc t).pair p = t.pair p := by
  cases p <;> rfl

/-! ### A written pair (R11, R63) -/

theorem regsBut_setReg_setReg (s : State) (r q : Reg) (u v : Byte) :
    RegsBut [r, q] s ((s.setReg r u).setReg q v) := by
  intro x hx
  obtain ⟨hr, hq⟩ : x ≠ r ∧ x ≠ q := by simpa using hx
  rw [State.reg_setReg, if_neg hq, State.reg_setReg, if_neg hr]

/-- A pair write is a write of its two halves, or of SP (R11). -/
theorem regsBut_setPair (s : State) (p : Pair) (v : Word) : RegsBut (pairRegs p) s (s.setPair p v) := by
  cases p with
  | bc => exact regsBut_setReg_setReg s .b .c (hiByte v) (loByte v)
  | de => exact regsBut_setReg_setReg s .d .e (hiByte v) (loByte v)
  | hl => exact regsBut_setReg_setReg s .h .l (hiByte v) (loByte v)
  | sp => exact fun q _ => State.reg_setSp s v q

theorem State.sp_setPair {p : Pair} (hp : p ≠ .sp) (s : State) (v : Word) : (s.setPair p v).sp = s.sp := by
  cases p with
  | sp => exact absurd rfl hp
  | _ => rfl

/-- A row that writes one pair and no more: the pair, PC and the frame. -/
theorem ended_setPair (f : Form) (taken : Bool) (pc : Word) (s : State) (p : Pair) (v : Word) :
    let t := ended f taken pc (s.setPair p v)
    t.pair p = v ∧ RegsBut (pairRegs p) s t ∧ (p ≠ .sp → t.sp = s.sp) ∧ t.flags = s.flags ∧ t.mem = s.mem ∧
      t.pc = pc :=
  ⟨(pair_ended ..).trans (State.pair_setPair s p v),
    fun q hq => (reg_ended ..).trans (regsBut_setPair s p v q hq),
    fun hp => State.sp_setPair hp s v, State.setPair_flags s p v, State.setPair_mem s p v, rfl⟩

/-! ### The instructions -/

/-- INX (R139). -/
theorem exec_inx (p : Pair) (s : State) :
    exec (Instr.ofForm (.inx p)) s =
      .next (ended (.inx p) false (s.pc + 1#16) (s.setPair p (s.pair p + 1#16))) := by
  rw [exec_ofForm, effect, finish_ofForm, State.setPair_pc]
  rfl

/-- DCX (R140). -/
theorem exec_dcx (p : Pair) (s : State) :
    exec (Instr.ofForm (.dcx p)) s =
      .next (ended (.dcx p) false (s.pc + 1#16) (s.setPair p (s.pair p - 1#16))) := by
  rw [exec_ofForm, effect, finish_ofForm, State.setPair_pc]
  rfl

/-- DAD: HL is written as a pair, then CY (R141). -/
theorem exec_dad (p : Pair) (s : State) :
    exec (Instr.ofForm (.dad p)) s =
      .next (ended (.dad p) false (s.pc + 1#16)
        ((s.setPair .hl (dadResult s.hl (s.pair p))).setCy (dadCarry s.hl (s.pair p)))) := by
  rw [exec_ofForm, effect, addToHl, finish_ofForm]
  rfl

end Sys2Proof.Machine

namespace Sys2Proof.Proofs

open Machine

/-- Settles O30: both rows write one pair and no more; its new value as a number is the sum of words, or the
difference of words, where taking 1 away is adding 65535. -/
theorem pairStepWritesNoFlag : Obligations.PairStepWritesNoFlag := by
  intro p s
  constructor
  · obtain ⟨hpair, hframe⟩ := ended_setPair (.inx p) false (s.pc + 1#16) s p (s.pair p + 1#16)
    exact ⟨_, exec_inx p s, by rw [hpair, BitVec.toNat_add]; rfl, hframe⟩
  · obtain ⟨hpair, hframe⟩ := ended_setPair (.dcx p) false (s.pc + 1#16) s p (s.pair p - 1#16)
    exact ⟨_, exec_dcx p s, by rw [hpair, BitVec.toNat_sub, Nat.add_comm]; rfl, hframe⟩

/-- Settles O31: the sum is HL's as a pair, for `DAD H` and `DAD SP` too, since the source is read before the
write; the write of CY touches no register. -/
theorem dadWritesHlAndCarry : Obligations.DadWritesHlAndCarry := by
  intro p s total
  refine ⟨_, exec_dad p s, ?hl, rfl, ?regs, rfl, rfl, rfl⟩
  case hl =>
    have hsum : (dadResult s.hl (s.pair p)).toNat = total % 65536 := BitVec.toNat_ofNat ..
    exact (congrArg BitVec.toNat (State.pair_setPair s .hl _)).trans hsum
  case regs =>
    intro q hq
    rw [reg_ended, State.reg_setCy]
    exact regsBut_setPair s .hl _ q hq

end Sys2Proof.Proofs

/-! PROOFS. MOV, MVI, LDA, STA, LDAX, STAX, LHLD and SHLD (R150 to R161): what a write of a register and of memory
leaves unchanged, then the shared meanings and the instructions. -/

namespace Sys2Proof.Machine

open Claims

/-! ### Frames of one write -/

@[simp] theorem readByte_ended (f : Form) (taken : Bool) (pc : Word) (t : State) (addr : Word) :
    (ended f taken pc t).readByte addr = t.readByte addr := rfl

theorem regsBut_setReg (s : State) (r : Reg) (v : Byte) : RegsBut [r] s (s.setReg r v) := by
  intro q hq
  rw [State.reg_setReg, if_neg (List.ne_of_not_mem_cons hq)]

theorem memBut_of_mem_eq {s t : State} {addrs : List Word} (h : t.mem = s.mem) : MemBut addrs s t :=
  fun addr _ => congrArg (·.read addr) h

@[simp] theorem State.readByte_writeByte_self (s : State) (addr : Word) (v : Byte) :
    (s.writeByte addr v).readByte addr = v :=
  Memory.read_write_self s.mem addr v

theorem memBut_writeByte (s : State) (addr : Word) (v : Byte) : MemBut [addr] s (s.writeByte addr v) := by
  intro x hx
  rw [State.readByte_writeByte, if_neg (List.ne_of_not_mem_cons hx)]

/-- The bytes a word write leaves: low at the address, high at the next one, the rest as before (R44). -/
theorem State.readByte_writeWord (s : State) (addr v x : Word) :
    (s.writeWord addr v).readByte x =
      if x = addr + 1#16 then hiByte v else if x = addr then loByte v else s.readByte x := by
  rw [State.writeWord, State.readByte_writeByte, State.readByte_writeByte]

theorem memBut_writeWord (s : State) (addr v : Word) : MemBut [addr, addr + 1#16] s (s.writeWord addr v) := by
  intro x hx
  obtain ⟨hlow, hhigh⟩ : x ≠ addr ∧ x ≠ addr + 1#16 := by simpa using hx
  rw [State.readByte_writeWord, if_neg hhigh, if_neg hlow]

/-! ### The shared meanings -/

/-- A row that ends by `finish` on a state with the flags and SP kept moves what that state moved (R17, R75). -/
theorem moved_ended {ds : List Reg} {addrs : List Word} {s t : State} (hreg : RegsBut ds s t)
    (hmem : MemBut addrs s t) (hflags : t.flags = s.flags) (hsp : t.sp = s.sp) (f : Form) (taken : Bool)
    (pc : Word) : Moved ds addrs pc s (ended f taken pc t) :=
  ⟨fun q hq => (reg_ended ..).trans (hreg q hq), hmem, hflags, hsp, rfl⟩

/-- A load of one register: the register, PC past the row and the frame (R150, R151, R153, R156, R158). -/
theorem loadReg_moved (f : Form) (r : Reg) (v : Byte) (s : State) :
    ∃ t, loadReg (Instr.ofForm f) r v s = .next t ∧ t.reg r = v ∧
      Moved [r] [] (s.pc + BitVec.ofNat 16 f.length) s t := by
  refine ⟨_, finish_ofForm f (s.setReg r v), ?value, ?frame⟩
  case value => rw [reg_ended, State.reg_setReg_self]
  case frame =>
    rw [State.setReg_pc]
    exact moved_ended (regsBut_setReg s r v) (memBut_of_mem_eq (State.setReg_mem s r v))
      (State.setReg_flags s r v) (State.setReg_sp s r v) ..

/-- A store of one byte: the byte, PC past the row and the frame (R152, R154, R157, R159). -/
theorem finish_writeByte_moved (f : Form) (addr : Word) (v : Byte) (s : State) :
    ∃ t, finish (Instr.ofForm f) (s.writeByte addr v) = .next t ∧ t.readByte addr = v ∧
      Moved [] [addr] (s.pc + BitVec.ofNat 16 f.length) s t := by
  refine ⟨_, finish_ofForm f (s.writeByte addr v), ?value, ?frame⟩
  case value => rw [readByte_ended, State.readByte_writeByte_self]
  case frame =>
    exact moved_ended (fun q _ => State.reg_writeByte s addr v q) (memBut_writeByte s addr v) rfl rfl ..

/-! ### The instructions that move HL -/

/-- LHLD: HL is written as a pair (R160). -/
theorem exec_lhld (a16 : Word) (s : State) :
    exec (.lhld a16) s =
      .next (ended (.lhld a16) false (s.pc + 3#16) (s.setPair .hl (s.readWord a16))) :=
  finish_ofForm (.lhld a16) (s.setPair .hl (s.readWord a16))

/-- SHLD: HL is stored as a word (R161). -/
theorem exec_shld (a16 : Word) (s : State) :
    exec (.shld a16) s = .next (ended (.shld a16) false (s.pc + 3#16) (s.writeWord a16 s.hl)) :=
  finish_ofForm (.shld a16) (s.writeWord a16 s.hl)

/-- Where two states differ in H and L at most, giving HL its value in the one makes all registers agree (R11). -/
theorem reg_setPair_hl_of_regsBut {s t : State} (h : RegsBut [.h, .l] s t) (r : Reg) :
    (t.setPair .hl s.hl).reg r = s.reg r := by
  by_cases hr : r ∈ pairRegs .hl
  · obtain rfl | rfl : r = .h ∨ r = .l := by simpa [pairRegs] using hr
    · exact hiByte_joinBytes s.h s.l
    · exact loByte_joinBytes s.h s.l
  · exact (regsBut_setPair t .hl s.hl r hr).trans (h r hr)

theorem regsBut_withHl {s t : State} (hreg : ∀ q, t.reg q = s.reg q) (h l : Byte) :
    RegsBut [.h, .l] s { t with h := h, l := l } := by
  intro q hq
  rw [← hreg q]
  cases q with
  | h | l => simp at hq
  | _ => rfl

/-- LHLD of a word that is another state's HL gives that state's registers, where no others differ (R160). -/
theorem exec_lhld_restores {a16 : Word} {s t : State} (hreg : RegsBut [.h, .l] s t)
    (hword : t.readWord a16 = s.hl) : ∃ u, exec (.lhld a16) t = .next u ∧ ∀ r, u.reg r = s.reg r := by
  refine ⟨_, exec_lhld a16 t, fun r => ?_⟩
  rw [reg_ended, hword, reg_setPair_hl_of_regsBut hreg]

end Sys2Proof.Machine

namespace Sys2Proof.Proofs

open Machine Claims

/-- Settles O37: LHLD reads the word SHLD wrote, which is the old HL, at the wrapping address too
(`State.readWord_writeWord`); the store keeps every register, and what comes between changes H and L only. -/
theorem lhldReadsBackShld : Obligations.LhldReadsBackShld := by
  intro a16 s h l
  have hregs : ∀ q, (ended (.shld a16) false (s.pc + 3#16) (s.writeWord a16 s.hl)).reg q = s.reg q := by simp
  obtain ⟨u, hu, hsame⟩ :=
    exec_lhld_restores (regsBut_withHl hregs h l) (State.readWord_writeWord s a16 s.hl)
  exact ⟨_, u, exec_shld a16 s, hu, hsame⟩

/-- Settles O32: a MOV into a register is a load of that register, whose source is read before the write; a MOV
into M is a store of one byte at HL. -/
theorem movCopiesOneByte : Obligations.MovCopiesOneByte := by
  refine ⟨fun r q s => ?regReg, fun r s => ?regM, fun r s => ?mReg⟩
  case regReg =>
    rw [exec_ofForm]
    exact loadReg_moved (.movRegReg r q) r (s.reg q) s
  case regM =>
    rw [exec_ofForm]
    exact loadReg_moved (.movRegM r) r s.readM s
  case mReg =>
    rw [exec_ofForm]
    exact finish_writeByte_moved (.movMReg r) s.hl (s.reg r) s

/-- Settles O33: a load of one register, or a store of one byte at HL, of the immediate. -/
theorem mviLoadsTheImmediate : Obligations.MviLoadsTheImmediate := by
  refine ⟨fun r v s => ?reg, fun v s => ?m⟩
  case reg =>
    rw [exec_ofForm]
    exact loadReg_moved (.mviReg r v) r v s
  case m => exact finish_writeByte_moved (.mviM v) s.hl v s

/-- Settles O35: the loads are loads of A, the stores are stores of A's byte at the address given or in the pair. -/
theorem accumulatorLoadsAndStores : Obligations.AccumulatorLoadsAndStores := by
  intro s
  refine ⟨fun a16 => ?lda, fun a16 => ?sta, ?ldaxB, ?ldaxD, ?staxB, ?staxD⟩
  case lda => exact loadReg_moved (.lda a16) .a (s.readByte a16) s
  case sta => exact finish_writeByte_moved (.sta a16) a16 s.a s
  case ldaxB => exact loadReg_moved (.ldax .bc) .a (s.readByte s.bc) s
  case ldaxD => exact loadReg_moved (.ldax .de) .a (s.readByte s.de) s
  case staxB => exact finish_writeByte_moved (.stax .bc) s.bc s.a s
  case staxD => exact finish_writeByte_moved (.stax .de) s.de s.a s

/-- Settles O36: LHLD writes the pair HL with a word of memory and SHLD a word of memory with HL, each word low byte
first; the two addresses of a word differ, at the wrapping one too. -/
theorem hlLoadsAndStoresLowByteFirst : Obligations.HlLoadsAndStoresLowByteFirst := by
  intro a16 s
  constructor
  · refine ⟨_, exec_lhld a16 s, loByte_joinBytes _ _, hiByte_joinBytes _ _, ?_⟩
    exact moved_ended (regsBut_setPair s .hl _) (memBut_of_mem_eq (State.setPair_mem s .hl _)) rfl rfl ..
  · refine ⟨_, exec_shld a16 s, ?low, ?high, ?frame⟩
    case low =>
      rw [readByte_ended, State.readByte_writeWord, if_neg (Word.succ_ne_self a16).symm, if_pos rfl]
      exact loByte_joinBytes s.h s.l
    case high =>
      rw [readByte_ended, State.readByte_writeWord, if_pos rfl]
      exact hiByte_joinBytes s.h s.l
    case frame =>
      exact moved_ended (fun q _ => State.reg_writeWord s a16 s.hl q) (memBut_writeWord s a16 s.hl) rfl rfl ..

end Sys2Proof.Proofs

/-! PROOFS. Jcc, Ccc and Rcc (R180, R182, R183, R185, R187): each conditional row taken and not taken, in the words of
the statements. -/

namespace Sys2Proof.Machine

open Claims

/-! ### Conditions and the end of a transfer -/

/-- `Cond(ccc)` is the table of R180. -/
theorem condition_iff_holds (f : Flags) (cond : Cond) : condition f cond ↔ f.holds cond = true := by
  cases cond <;> simp [condition, Flags.holds]

/-- `transfer` in the words of the statements: PC at the target and the outputs of a step without a report
(R17, R76). -/
theorem transfer_ofForm (f : Form) (taken : Bool) (target : Word) (t : State) :
    transfer (Instr.ofForm f) taken target t = .next (ended f taken target t) := rfl

/-! ### The conditional rows -/

section
variable {cond : Cond} {s : State}

/-- A taken Jcc (R183). -/
theorem exec_jcc_of_condition (h : condition s.flags cond) (a16 : Word) :
    exec (Instr.ofForm (.jcc cond a16)) s = .next (ended (.jcc cond a16) true a16 s) := by
  rw [exec_ofForm, effect, jumpIf, if_pos ((condition_iff_holds ..).1 h), transfer_ofForm]

/-- A Jcc not taken (R183). -/
theorem exec_jcc_of_not_condition (h : ¬ condition s.flags cond) (a16 : Word) :
    exec (Instr.ofForm (.jcc cond a16)) s = .next (ended (.jcc cond a16) false (s.pc + 3#16) s) := by
  rw [exec_ofForm, effect, jumpIf, if_neg (mt (condition_iff_holds ..).2 h), finish_ofForm, Form.length]

/-- A taken Ccc: the address after its three bytes is pushed (R181, R185). -/
theorem exec_ccc_of_condition (h : condition s.flags cond) (a16 : Word) :
    exec (Instr.ofForm (.ccc cond a16)) s =
      .next (ended (.ccc cond a16) true a16 (s.push16 (s.pc + 3#16))) := by
  rw [exec_ofForm, effect, callIf, if_pos ((condition_iff_holds ..).1 h), callTo, nextPc_ofForm, transfer_ofForm,
    Form.length]

/-- A Ccc not taken: no stack access (R185). -/
theorem exec_ccc_of_not_condition (h : ¬ condition s.flags cond) (a16 : Word) :
    exec (Instr.ofForm (.ccc cond a16)) s = .next (ended (.ccc cond a16) false (s.pc + 3#16) s) := by
  rw [exec_ofForm, effect, callIf, if_neg (mt (condition_iff_holds ..).2 h), finish_ofForm, Form.length]

/-- A taken Rcc: the word on top is popped into PC (R187). -/
theorem exec_rcc_of_condition (h : condition s.flags cond) :
    exec (Instr.ofForm (.rcc cond)) s = .next (ended (.rcc cond) true s.top16 s.popped) := by
  rw [exec_ofForm, effect, returnIf, if_pos ((condition_iff_holds ..).1 h), returnFrom, transfer_ofForm]

/-- An Rcc not taken: no stack access (R187). -/
theorem exec_rcc_of_not_condition (h : ¬ condition s.flags cond) :
    exec (Instr.ofForm (.rcc cond)) s = .next (ended (.rcc cond) false (s.pc + 1#16) s) := by
  rw [exec_ofForm, effect, returnIf, if_neg (mt (condition_iff_holds ..).2 h), finish_ofForm, Form.length]

end

end Sys2Proof.Machine

namespace Sys2Proof.Proofs

open Machine Claims

/-- Settles O42: the condition either holds or not, and the three rows of the same condition are then all taken or all
not taken. -/
theorem conditionalFormsFollowOneTable : Obligations.ConditionalFormsFollowOneTable := by
  intro cond a16 s
  by_cases h : condition s.flags cond
  · exact ⟨_, _, _, exec_jcc_of_condition h a16, exec_ccc_of_condition h a16, exec_rcc_of_condition h,
      fun _ => ⟨rfl, rfl, State.push16_sp s (s.pc + 3#16), State.popped_sp s⟩, fun hn => absurd h hn⟩
  · exact ⟨_, _, _, exec_jcc_of_not_condition h a16, exec_ccc_of_not_condition h a16, exec_rcc_of_not_condition h,
      fun hc => absurd hc h, fun _ => ⟨rfl, rfl, rfl, rfl, rfl⟩⟩

/-- Settles O43: JMP is a transfer, and Jcc a transfer or the end past the row as its condition holds or not. -/
theorem jumpsGoToTheirTarget : Obligations.JumpsGoToTheirTarget := by
  intro a16 s
  exact ⟨transfer_ofForm (.jmp a16) false a16 s, fun _ =>
    ⟨fun h => exec_jcc_of_condition h a16, fun h => exec_jcc_of_not_condition h a16⟩⟩

end Sys2Proof.Proofs

/-! PROOFS. XCHG, XTHL, PCHL and SPHL (R210 to R213): the two exchanges as updates of the state, then the
instructions; each exchange executed twice undoes itself. -/

namespace Sys2Proof.Machine

open Claims

/-! ### The word written to memory, byte by byte (R44) -/

@[simp] theorem State.readByte_writeWord_self (s : State) (addr v : Word) :
    (s.writeWord addr v).readByte addr = loByte v := by
  rw [State.readByte_writeWord, if_neg (Word.succ_ne_self addr).symm, if_pos rfl]

@[simp] theorem State.readByte_writeWord_succ (s : State) (addr v : Word) :
    (s.writeWord addr v).readByte (addr + 1#16) = hiByte v := by
  rw [State.readByte_writeWord, if_pos rfl]

/-! ### The exchanges -/

/-- Writing each of the pairs DE and HL with the other's old value swaps their halves (R210). -/
theorem State.setPair_de_setHl_swap (s : State) :
    (s.setPair .de s.hl).setHl s.de = { s with h := s.d, l := s.e, d := s.h, e := s.l } := by
  simp only [State.setPair, State.setHl, State.hl, State.de, hiByte_joinBytes, loByte_joinBytes]

/-- XCHG (R210). -/
theorem exec_xchg (s : State) :
    exec .xchg s =
      .next (ended .xchg false (s.pc + 1#16) { s with h := s.d, l := s.e, d := s.h, e := s.l }) := by
  rw [← State.setPair_de_setHl_swap]
  exact finish_ofForm .xchg _

/-- XTHL: HL is stored as a word at SP, then written as a pair with the word that was there (R211). -/
theorem exec_xthl (s : State) :
    exec .xthl s =
      .next (ended .xthl false (s.pc + 1#16) ((s.writeWord s.sp s.hl).setPair .hl s.top16)) :=
  finish_ofForm .xthl _

/-! ### Repeated execution -/

theorem repeated_succ {i : Instr} {s t : State} (h : exec i s = .next t) (n : Nat) :
    repeated i (n + 1) s = repeated i n t := by
  rw [repeated, h]

theorem repeated_two {i : Instr} {s t u : State} (hst : exec i s = .next t) (htu : exec i t = .next u) :
    repeated i 2 s = some u := by
  rw [repeated_succ hst, repeated_succ htu, repeated]

end Sys2Proof.Machine

namespace Sys2Proof.Proofs

open Machine Claims

/-- Settles O50: XCHG and SPHL end past the row, PCHL is a transfer to HL. -/
theorem pairExchanges : Obligations.PairExchanges := by
  intro s
  refine ⟨exec_xchg s, ?pchl, ?sphl⟩
  case pchl => exact transfer_ofForm .pchl false s.hl s
  case sphl => exact finish_ofForm .sphl (s.setSp s.hl)

/-- Settles O51: the pair HL takes the word at SP and that word takes HL, each low byte first; the two addresses of the
word differ, at the wrapping one too. -/
theorem xthlExchangesHlWithTheTop : Obligations.XthlExchangesHlWithTheTop := by
  intro s
  refine ⟨_, exec_xthl s, loByte_joinBytes _ _, hiByte_joinBytes _ _, ?low, ?high, ?frame⟩
  case low => exact (State.readByte_writeWord_self s s.sp s.hl).trans (loByte_joinBytes s.h s.l)
  case high => exact (State.readByte_writeWord_succ s s.sp s.hl).trans (hiByte_joinBytes s.h s.l)
  case frame =>
    have hregs : RegsBut [.h, .l] s ((s.writeWord s.sp s.hl).setPair .hl s.top16) := fun q hq =>
      (regsBut_setPair (s.writeWord s.sp s.hl) .hl s.top16 q hq).trans (State.reg_writeWord ..)
    exact moved_ended hregs (memBut_writeWord s s.sp s.hl) rfl rfl ..

/-- Settles O52: the second exchange meets what the first put in place. For XTHL both work at the same two addresses,
since the first keeps SP; there the law of one XTHL taken twice gives the old bytes back, elsewhere its frame does. -/
theorem exchangesUndoThemselves : Obligations.ExchangesUndoThemselves := by
  intro s
  constructor
  · refine ⟨_, repeated_two (exec_xchg s) (exec_xchg _), fun r => ?_, rfl, rfl⟩
    cases r <;> rfl
  · obtain ⟨t, hst, htl, hth, htlow, hthigh, htregs, htmem, -, htsp, -⟩ := xthlExchangesHlWithTheTop s
    obtain ⟨u, htu, hul, huh, hulow, huhigh, huregs, humem, -, husp, -⟩ := xthlExchangesHlWithTheTop t
    rw [htsp] at hul huh hulow huhigh humem husp
    refine ⟨u, repeated_two hst htu, fun r => ?regs, fun addr => ?mem, husp⟩
    case regs =>
      by_cases hr : r ∈ [Reg.h, .l]
      · obtain rfl | rfl : r = .h ∨ r = .l := by simpa using hr
        · exact huh.trans hthigh
        · exact hul.trans htlow
      · exact (huregs r hr).trans (htregs r hr)
    case mem =>
      by_cases haddr : addr ∈ [s.sp, s.sp + 1#16]
      · obtain rfl | rfl : addr = s.sp ∨ addr = s.sp + 1#16 := by simpa using haddr
        · exact hulow.trans htl
        · exact huhigh.trans hth
      · exact (humem addr haddr).trans (htmem addr haddr)

end Sys2Proof.Proofs

/-! PROOFS. NOP and its duplicates (R221, R222): a duplicate's opcode is one of the NOP_DUP_SET, so its step ends in the
state a NOP's step ends in, cost included. -/

namespace Sys2Proof.Machine

open Claims

/-- The row of every duplicate has its opcode in the NOP_DUP_SET (R4, R222). -/
theorem opcode_nopDup_mem (k : Fin 7) : opcode (Instr.ofForm (.nopDup k)) ∈ Config.nopDupSet := by
  revert k
  decide

/-- A step of a duplicate ends in the state a step of NOP ends in: only the cost depends on the row, and it is NOP's
(R222). -/
theorem ended_nopDup (k : Fin 7) (taken : Bool) (pc : Word) (t : State) :
    ended (.nopDup k) taken pc t = ended .nop taken pc t := by
  have hcost : cyclesOf t.cyclesParam (opcode (Instr.ofForm (.nopDup k))) taken =
      cyclesOf t.cyclesParam (opcode (Instr.ofForm .nop)) taken :=
    cyclesOf_nopDup (opcode_nopDup_mem k) t.cyclesParam taken
  rw [ended, hcost, ended]

end Sys2Proof.Machine

namespace Sys2Proof.Proofs

open Machine Claims

/-- Settles O56: NOP and each duplicate end one byte on with nothing else done, and ending a duplicate is ending a NOP. -/
theorem nopChangesOnlyPc : Obligations.NopChangesOnlyPc := by
  intro s
  refine ⟨finish_ofForm .nop s, fun k => ?dup⟩
  case dup => rw [exec_ofForm, effect, finish_ofForm, ended_nopDup, Form.length]

end Sys2Proof.Proofs

/-! PROOFS. No instruction can fault (R240): every form's effect answers a next state, and exec and step run an effect. -/

namespace Sys2Proof.Machine

/-- A conditional row answers a next state when its taken end and its not-taken end both do. -/
theorem exists_next_ite {c : Prop} [Decidable c] {taken untaken : Result} (ht : ∃ t, taken = .next t)
    (hu : ∃ t, untaken = .next t) : ∃ t, (if c then taken else untaken) = .next t := by
  split
  · exact ht
  · exact hu

/-- An accumulator operation ends in `finish`, whichever of the eight it is. -/
theorem aluEffect_exists_next (i : Instr) (o : AluOp) (v : Byte) (s : State) :
    ∃ t, aluEffect i o v s = .next t := by
  cases o <;> exact ⟨_, rfl⟩

/-- Every effect ends in `finish`, `transfer` or `reportDecodeError`, and each of the three is the answer of a next
state; only the conditional forms choose, between two such ends. -/
theorem effect_exists_next (i : Instr) (f : Form) (s : State) : ∃ t, effect i f s = .next t := by
  cases f with
  | alu o src => exact aluEffect_exists_next i o (s.source src) s
  | jcc cond a16 => exact exists_next_ite ⟨_, rfl⟩ ⟨_, rfl⟩
  | ccc cond a16 => exact exists_next_ite ⟨_, rfl⟩ ⟨_, rfl⟩
  | rcc cond => exact exists_next_ite ⟨_, rfl⟩ ⟨_, rfl⟩
  | _ => exact ⟨_, rfl⟩

/-- The meaning of every instruction answers a next state, from every state (R240). -/
theorem exec_exists_next (i : Instr) (s : State) : ∃ t, exec i s = .next t := by
  rw [exec_eq_effect]
  exact effect_exists_next i i.form s

end Sys2Proof.Machine

namespace Sys2Proof.Proofs

open Machine

/-- Settles O9: exec of a row is the effect of its form, which answers a next state; a step is exec of the fetched row. -/
theorem noInstructionCanFault : Obligations.NoInstructionCanFault :=
  ⟨exec_exists_next, fun s => exec_exists_next s.fetch s⟩

end Sys2Proof.Proofs

/-! PROOFS. The decoder and the encoder (R60 to R72): first bytes and operand bytes of a decoded row, the row of an
encoding, and what `decode` answers by the length of the row. -/

namespace Sys2Proof

open Claims

/-! ### From bytes to a row (R61 to R71) -/

/-- The first byte of a decoded row is the byte it was decoded from (R66 to R69). -/
@[simp] theorem opcode_instrOf (op b2 b3 : Byte) : opcode (instrOf op b2 b3) = op := by
  refine byte_cases (P := fun op => opcode (instrOf op b2 b3) = op) (fun n hn => ?_) op
  interval_cases n <;> rfl

/-- The operand bytes of a decoded row are those it was decoded from. The word of bytes 2 and 3 is named before the
first bytes are gone through, so that each row computes (R61, R65). -/
theorem operandBytes_instrOf (op b2 b3 : Byte) :
    operandBytes (instrOf op b2 b3) = [b2, b3].take (lengthOf op - 1) := by
  have hlow := loByte_joinBytes b3 b2
  have hhigh := hiByte_joinBytes b3 b2
  simp only [instrOf, formOf, formOfQuadrant0, formOfQuadrant3]
  generalize joinBytes b3 b2 = w at hlow hhigh ⊢
  subst hlow hhigh
  revert op
  refine byte_cases fun n hn => ?_
  interval_cases n <;> rfl

/-- The length of a first byte is the one listed for it (R71). -/
theorem lengthOf_eq_listed (op : Byte) :
    lengthOf op = if op ∈ threeByteSet then 3 else if op ∈ twoByteSet then 2 else 1 := by
  revert op
  refine byte_cases fun n hn => ?_
  interval_cases n <;> rfl

theorem lengthOf_cases (op : Byte) : lengthOf op = 1 ∨ lengthOf op = 2 ∨ lengthOf op = 3 := by
  rw [lengthOf_eq_listed]
  split_ifs <;> simp

/-- The class of a form is the class of the first byte it was decoded from (R70). -/
theorem formClass_formOf (op b2 b3 : Byte) : formClass (formOf op b2 b3) =
    if op ∈ Config.unknownSet then .unknown
    else if op ∈ Config.nopDupSet then .nopDup
    else if op ∈ Config.unimplementedSet then .unimplemented
    else .implemented := by
  revert op
  refine byte_cases fun n hn => ?_
  interval_cases n <;> rfl

/-! ### From a row to bytes -/

/-- The row named by the form of a row is that row. -/
@[simp] theorem ofForm_form (i : Instr) : Instr.ofForm i.form = i := by
  cases i <;> rfl

/-- A row whose operand is a word decodes from the bytes of that word (R65). -/
theorem instrOf_word {row : Word → Instr} {op : Byte} (h : ∀ b2 b3, instrOf op b2 b3 = row (joinBytes b3 b2))
    (w : Word) : instrOf op (loByte w) (hiByte w) = row w := by
  rw [h, joinBytes_hi_lo]

/-- A row decodes from its first byte and its operand bytes, with 0 in the place of those it does not have. -/
theorem instrOf_encode (i : Instr) :
    instrOf (opcode i) ((operandBytes i).getD 0 0#8) ((operandBytes i).getD 1 0#8) = i := by
  cases i <;> dsimp only [opcode]
  case lxiB w | lxiD w | lxiH w | lxiSp w | shld w | lhld w | sta w | lda w | jnz w | jmp w | cnz w | jz w | cz w
  | call w | jnc w | cnc w | jc w | cc w | jpo w | cpo w | jpe w | cpe w | jp w | cp w | jm w | cm w =>
    exact instrOf_word (fun _ _ => rfl) w
  all_goals rfl

/-- Every row decodes from some three bytes. -/
theorem exists_instrOf_eq (i : Instr) : ∃ op b2 b3, instrOf op b2 b3 = i :=
  ⟨_, _, _, instrOf_encode i⟩

/-- A decoded row encodes to the bytes it was decoded from, as many as its first byte says (R60, R71). -/
theorem encode_instrOf (op b2 b3 : Byte) : encode (instrOf op b2 b3) = [op, b2, b3].take (lengthOf op) := by
  rw [encode, opcode_instrOf, operandBytes_instrOf]
  obtain h | h | h := lengthOf_cases op <;> rw [h] <;> rfl

/-- An encoding is as long as its first byte says (R60, R71). -/
theorem length_encode (i : Instr) : (encode i).length = lengthOf (opcode i) := by
  obtain ⟨op, b2, b3, rfl⟩ := exists_instrOf_eq i
  rw [encode_instrOf, opcode_instrOf]
  obtain h | h | h := lengthOf_cases op <;> rw [h] <;> rfl

/-! ### What `decode` answers (R60, R71) -/

/-- Decoding undoes encoding: by the length of the row, `decode` takes the operand bytes the row has, and the row does
not depend on the others. -/
theorem decode_encode (i : Instr) (rest : List Byte) : decode (encode i ++ rest) = .ok (i, rest) := by
  obtain ⟨op, b2, b3, rfl⟩ := exists_instrOf_eq i
  rw [encode_instrOf]
  obtain h | h | h := lengthOf_cases op
  · simp [decode, h, instrOf_length_one h b2 b3]
  · simp [decode, h, instrOf_length_two h b2 b3]
  · simp [decode, h]

/-- What `decode` answers for bytes that begin with the encoding of a row. -/
theorem decode_of_prefix {i : Instr} {bytes : List Byte} (h : encode i <+: bytes) :
    ∃ rest, decode bytes = .ok (i, rest) := by
  obtain ⟨rest, rfl⟩ := h
  exact ⟨rest, decode_encode i rest⟩

/-- Three bytes always hold a row, the row of all three. -/
theorem decode_three_bytes (op b2 b3 : Byte) : ∃ rest, decode [op, b2, b3] = .ok (instrOf op b2 b3, rest) :=
  decode_of_prefix (encode_instrOf op b2 b3 ▸ List.take_prefix ..)

end Sys2Proof

namespace Sys2Proof.Machine

/-! ### The step runs what the bytes at PC decode to (R53, R75) -/

theorem step_of_decode {s : State} {i : Instr} {rest : List Byte}
    (h : decode [s.readByte s.pc, s.readByte (s.pc + 1#16), s.readByte (s.pc + 2#16)] = .ok (i, rest)) :
    step s = exec i s := by
  obtain ⟨rest', hfetch⟩ :=
    decode_three_bytes (s.readByte s.pc) (s.readByte (s.pc + 1#16)) (s.readByte (s.pc + 2#16))
  have hrow : s.fetch = i := congrArg Prod.fst (Except.ok.inj (hfetch.symm.trans h))
  rw [step, hrow]

/-- An encoding that memory holds from PC on, wrapping, begins the three bytes a step reads. -/
theorem encode_prefix_of_readByte {s : State} {i : Instr}
    (h : ∀ (k : Nat) (v : Byte), (encode i)[k]? = some v → s.readByte (s.pc + BitVec.ofNat 16 k) = v) :
    encode i <+: [s.readByte s.pc, s.readByte (s.pc + 1#16), s.readByte (s.pc + 2#16)] := by
  have hlen : (encode i).length ≤ 3 := by
    rw [length_encode]
    obtain h | h | h := lengthOf_cases (opcode i) <;> omega
  rw [List.prefix_iff_getElem?]
  intro k hk
  rw [← h k _ (List.getElem?_eq_getElem hk)]
  obtain rfl | rfl | rfl : k = 0 ∨ k = 1 ∨ k = 2 := by omega
  · simp
  · rfl
  · rfl

end Sys2Proof.Machine

namespace Sys2Proof.Proofs

open Machine

/-- Settles O1: every row decodes from three bytes, and encodes to those its length takes. -/
theorem decodeAfterEncodeReturnsTheInstruction : Obligations.DecodeAfterEncodeReturnsTheInstruction :=
  decode_encode

/-- Settles O2: the first byte and the operand bytes of a decoded row are those it was decoded from. -/
theorem encodeAfterDecodeReturnsTheBytes : Obligations.EncodeAfterDecodeReturnsTheBytes :=
  encode_instrOf

/-- Settles O3: each word is decoded by evaluation. -/
theorem specWordsDecodeAsWritten : Obligations.SpecWordsDecodeAsWritten := by
  unfold Obligations.SpecWordsDecodeAsWritten
  decide

/-- Settles O4: an encoding is as long as its first byte says, and that is the length listed. -/
theorem lengthFollowsTheFirstByte : Obligations.LengthFollowsTheFirstByte :=
  fun i => (length_encode i).trans (lengthOf_eq_listed (opcode i))

/-- Settles O5: the form of a decoded row is the one the decoder reads, whose class is checked byte by byte. -/
theorem firstByteDecidesTheClass : Obligations.FirstByteDecidesTheClass := by
  intro op b2 b3
  rw [instrOf, form_ofForm, formClass_formOf]

/-- Settles O7: the row fetched is the row decoded from the three bytes at PC. -/
theorem stepRunsTheDecodedInstruction : Obligations.StepRunsTheDecodedInstruction :=
  fun _ _ _ => step_of_decode

/-- Settles O8: the encoding begins the three bytes fetched, so decoding those gives the instruction. -/
theorem stepRunsTheEncodedInstruction : Obligations.StepRunsTheEncodedInstruction := by
  intro s i h
  obtain ⟨rest, hdecode⟩ := decode_of_prefix (encode_prefix_of_readByte h)
  exact step_of_decode hdecode

end Sys2Proof.Proofs

/-! PROOFS. What every row does, as one state: the registers, flags and SP it assigns, the bytes it stores in order,
PC by the law of R17 and the outputs of R76. The laws over all rows are then laws of these parts. -/

namespace Sys2Proof.Machine

open Claims

/-! ### Stores in order (R42, R57) -/

/-- Memory after stores of bytes at addresses, the first of the list first. -/
def Memory.writeAll (m : Memory) (cells : List (Word × Byte)) : Memory :=
  cells.foldl (fun m x => m.write x.1 x.2) m

theorem Memory.writeAll_cons (m : Memory) (x : Word × Byte) (cells : List (Word × Byte)) :
    m.writeAll (x :: cells) = (m.write x.1 x.2).writeAll cells := rfl

theorem Memory.wf_writeAll (cells : List (Word × Byte)) {m : Memory} (hm : m.wf) : (m.writeAll cells).wf := by
  induction cells generalizing m with
  | nil => exact hm
  | cons x cells ih => exact ih (Memory.wf_write hm x.1 x.2)

/-- Stores into two memories leave them equal wherever they were equal before. -/
theorem Memory.read_writeAll_congr (cells : List (Word × Byte)) {m n : Memory} {addr : Word}
    (h : m.read addr = n.read addr) : (m.writeAll cells).read addr = (n.writeAll cells).read addr := by
  induction cells generalizing m n with
  | nil => exact h
  | cons x cells ih =>
    refine ih ?_
    rw [Memory.read_write, Memory.read_write, h]

/-- An address that nothing is stored to reads as before. -/
theorem Memory.read_writeAll_of_notMem (cells : List (Word × Byte)) {m : Memory} {addr : Word}
    (h : addr ∉ cells.map Prod.fst) : (m.writeAll cells).read addr = m.read addr := by
  induction cells generalizing m with
  | nil => rfl
  | cons x cells ih =>
    obtain ⟨hx, hcells⟩ : addr ≠ x.1 ∧ addr ∉ cells.map Prod.fst := by simpa using h
    rw [Memory.writeAll_cons, ih hcells, Memory.read_write, if_neg hx]

/-- An address that is stored to reads the same whatever memory the stores began from. -/
theorem Memory.read_writeAll_of_mem (cells : List (Word × Byte)) (m n : Memory) {addr : Word}
    (h : addr ∈ cells.map Prod.fst) : (m.writeAll cells).read addr = (n.writeAll cells).read addr := by
  induction cells generalizing m n with
  | nil => cases h
  | cons x cells ih =>
    by_cases hcells : addr ∈ cells.map Prod.fst
    · exact ih _ _ hcells
    · obtain rfl : addr = x.1 := by simpa [hcells] using h
      exact Memory.read_writeAll_congr cells (by simp)

/-! ### The parts of a row's effect -/

/-- A and the flags after an accumulator operation on a value (R103 to R134). -/
def aluAssigned (s : State) (v : Byte) : AluOp → State
  | .add => (s.setA (addResult s.a v false)).setFlags (addFlags s.a v false)
  | .adc => (s.setA (addResult s.a v s.flags.cy)).setFlags (addFlags s.a v s.flags.cy)
  | .sub => (s.setA (subResult s.a v false)).setFlags (subFlags s.a v false)
  | .sbb => (s.setA (subResult s.a v s.flags.cy)).setFlags (subFlags s.a v s.flags.cy)
  | .ana => (s.setA (s.a &&& v)).setFlags (logicFlags (s.a &&& v))
  | .xra => (s.setA (s.a ^^^ v)).setFlags (logicFlags (s.a ^^^ v))
  | .ora => (s.setA (s.a ||| v)).setFlags (logicFlags (s.a ||| v))
  | .cmp => s.setFlags (subFlags s.a v false)

/-- The state with the registers, flags and SP that a row assigns; memory, PC and the outputs are not yet touched. -/
def assigned (s : State) : Form → State
  | .movRegReg dst r => s.setReg dst (s.reg r)
  | .movRegM dst => s.setReg dst s.readM
  | .mviReg dst d8 => s.setReg dst d8
  | .lxi p d16 => s.setPair p d16
  | .lda a16 => s.setReg .a (s.readByte a16)
  | .lhld a16 => s.setHl (s.readWord a16)
  | .ldax x => s.setReg .a (s.readByte (s.indexAddr x))
  | .alu o src => aluAssigned s (s.source src) o
  | .inrReg r => (s.setReg r (s.reg r + 1#8)).setFlags (s.flags.increment (s.reg r))
  | .inrM => s.setFlags (s.flags.increment s.readM)
  | .dcrReg r => (s.setReg r (s.reg r - 1#8)).setFlags (s.flags.decrement (s.reg r))
  | .dcrM => s.setFlags (s.flags.decrement s.readM)
  | .inx p => s.setPair p (s.pair p + 1#16)
  | .dcx p => s.setPair p (s.pair p - 1#16)
  | .dad p => (s.setHl (dadResult s.hl (s.pair p))).setCy (dadCarry s.hl (s.pair p))
  | .daa => (s.setA (daaResult s.a s.flags.cy s.flags.ac)).setFlags (s.flags.decimal s.a)
  | .rlc => (s.setA (rotateLeftIn s.a (s.a.getLsbD 7))).setCy (s.a.getLsbD 7)
  | .rrc => (s.setA (rotateRightIn s.a (s.a.getLsbD 0))).setCy (s.a.getLsbD 0)
  | .ral => (s.setA (rotateLeftIn s.a s.flags.cy)).setCy (s.a.getLsbD 7)
  | .rar => (s.setA (rotateRightIn s.a s.flags.cy)).setCy (s.a.getLsbD 0)
  | .cma => s.setA (~~~s.a)
  | .stc => s.setCy true
  | .cmc => s.setCy (!s.flags.cy)
  | .call _ | .push _ | .pushPsw => s.setSp (s.sp - 2#16)
  | .ccc cond _ => if s.flags.holds cond then s.setSp (s.sp - 2#16) else s
  | .ret => s.popped
  | .rcc cond => if s.flags.holds cond then s.popped else s
  | .pop p => s.popped.setPair p.toPair s.top16
  | .popPsw => s.popped.setPsw s.top16
  | .xchg => (s.setPair .de s.hl).setHl s.de
  | .xthl => s.setHl s.top16
  | .sphl => s.setSp s.hl
  | .nop | .nopDup _ | .movMReg _ | .mviM _ | .sta _ | .shld _ | .stax _ | .jmp _ | .jcc _ _ | .pchl | .hlt
  | .rst _ | .inPort _ | .outPort _ | .ei | .di | .unknown _ => s

/-- The two stores of a push of the word `v` (R170). -/
def pushCells (s : State) (v : Word) : List (Word × Byte) :=
  [(s.sp - 1#16, hiByte v), (s.sp - 2#16, loByte v)]

/-- The two stores of the word `v` at `addr` (R44). -/
def wordCells (addr v : Word) : List (Word × Byte) := [(addr, loByte v), (addr + 1#16, hiByte v)]

/-- The bytes a row stores, in the order it stores them (R57). -/
def stores (s : State) : Form → List (Word × Byte)
  | .movMReg r => [(s.hl, s.reg r)]
  | .mviM d8 => [(s.hl, d8)]
  | .inrM => [(s.hl, s.readM + 1#8)]
  | .dcrM => [(s.hl, s.readM - 1#8)]
  | .sta a16 => [(a16, s.a)]
  | .stax x => [(s.indexAddr x, s.a)]
  | .shld a16 => wordCells a16 s.hl
  | .push p => pushCells s (s.pair p.toPair)
  | .pushPsw => pushCells s s.psw
  | .call _ => pushCells s (s.pc + 3#16)
  | .ccc cond _ => if s.flags.holds cond then pushCells s (s.pc + 3#16) else []
  | .xthl => wordCells s.sp s.hl
  | .nop | .nopDup _ | .movRegReg _ _ | .movRegM _ | .mviReg _ _ | .lxi _ _ | .lda _ | .lhld _ | .ldax _
  | .alu _ _ | .inrReg _ | .dcrReg _ | .inx _ | .dcx _ | .dad _ | .daa | .rlc | .rrc | .ral | .rar
  | .cma | .stc | .cmc | .jmp _ | .jcc _ _ | .ret | .rcc _ | .pop _ | .popPsw | .xchg | .pchl | .sphl
  | .hlt | .rst _ | .inPort _ | .outPort _ | .ei | .di | .unknown _ => []

/-- The state with what a row assigns and stores; PC and the outputs are not yet touched. -/
def written (s : State) (f : Form) : State := { assigned s f with mem := s.mem.writeAll (stores s f) }

/-- The decode-error report of a row: an unknown byte's address and value (R241). -/
def reportOf (s : State) (f : Form) : Option DecodeReport :=
  if formClass f = .unknown then some ⟨s.pc, opcode (Instr.ofForm f)⟩ else none

/-- The state a row ends in. -/
def after (s : State) (f : Form) : State :=
  { written s f with
    pc := pcAfter f s
    cycles := cyclesOf s.cyclesParam (opcode (Instr.ofForm f)) (takes f s)
    report := reportOf s f
    decodeErrorSeen := decide (formClass f = .unknown) || s.decodeErrorSeen
    cyclesParam := s.cyclesParam }

/-- The row of an unknown byte has that byte (R4, R229). -/
theorem opcode_unknown (k : Fin 5) :
    opcode (Instr.ofForm (.unknown k)) = [0xCB#8, 0xD9#8, 0xDD#8, 0xED#8, 0xFD#8][k] := by
  revert k
  decide

/-- An unknown byte costs 0 (R277). -/
theorem cyclesOf_opcode_unknown (k : Fin 5) (param : List CycleEntry) (taken : Bool) :
    cyclesOf param (opcode (Instr.ofForm (.unknown k))) taken = 0#8 :=
  cyclesOf_unknown (opcode_unknown k ▸ List.getElem_mem _) param taken

/-- What every row does: it assigns, it stores, PC is where the law of R17 puts it and the outputs are written. The
conditional rows are this with their condition true and with it false. -/
theorem exec_ofForm_eq_after (f : Form) (s : State) : exec (Instr.ofForm f) s = .next (after s f) := by
  cases f with
  | alu o src =>
    cases o <;>
      simp only [exec_ofForm, effect, aluEffect, addToA, subFromA, logicToA, compareWithA, finish_ofForm,
        ofNat_length_alu] <;> rfl
  | movRegReg dst | movRegM dst | mviReg dst | inrReg dst | dcrReg dst =>
    simp only [exec_ofForm, effect, loadReg, incrementReg, decrementReg, finish_ofForm]
    cases dst <;> rfl
  | lxi p | inx p | dcx p | pop p =>
    rw [exec_ofForm, effect, finish_ofForm]
    cases p <;> rfl
  | call a16 =>
    rw [exec_ofForm, effect, callTo, nextPc_ofForm, Form.length, transfer_ofForm]
    rfl
  | jcc cond | ccc cond | rcc cond =>
    simp only [exec_ofForm, effect, jumpIf, callIf, returnIf, callTo, returnFrom, finish_ofForm, transfer_ofForm,
      nextPc_ofForm, Form.length, after, written, assigned, stores, pcAfter, takes]
    cases s.flags.holds cond <;> rfl
  | jmp | ret | pchl => exact exec_ofForm _ s
  | unknown k =>
    have hcost := cyclesOf_opcode_unknown k s.cyclesParam false
    rw [exec_ofForm, effect, reportDecodeError, ← hcost]
    rfl
  | _ =>
    simp only [exec_ofForm, effect, loadReg, storeM, incrementM, decrementM, addToHl, rotateA, finish_ofForm]
    rfl

/-- What an instruction does, by its form. -/
theorem exec_eq_after (i : Instr) (s : State) : exec i s = .next (after s i.form) := by
  rw [← exec_ofForm_eq_after, ofForm_form]

/-! ### The parts of that state -/

theorem reg_after (s : State) (f : Form) (r : Reg) : (after s f).reg r = (assigned s f).reg r := by
  cases r <;> rfl

theorem sp_after (s : State) (f : Form) : (after s f).sp = (assigned s f).sp := rfl

theorem flags_after (s : State) (f : Form) : (after s f).flags = (assigned s f).flags := rfl

theorem pc_after (s : State) (f : Form) : (after s f).pc = pcAfter f s := rfl

theorem mem_after (s : State) (f : Form) : (after s f).mem = s.mem.writeAll (stores s f) := rfl

end Sys2Proof.Machine

/-! PROOFS. The laws over all rows: PC, SP, the frames of flags, registers and memory, and memory's canonical form
(R14, R15, R17, R40, R57). -/

namespace Sys2Proof.Machine

open Claims

/-! ### SP (R15) -/

/-- SP after what a row assigns (R15). -/
theorem sp_assigned (s : State) (f : Form) : (assigned s f).sp = spAfter f s := by
  cases f with
  | movRegReg | movRegM | mviReg | inrReg | dcrReg => simp [assigned, spAfter]
  | lxi p | inx p | dcx p | pop p => cases p <;> rfl
  | alu o src => cases o <;> rfl
  | ccc cond | rcc cond =>
    rw [assigned, spAfter]
    cases s.flags.holds cond <;> rfl
  | _ => rfl

/-! ### Flags (R14) -/

/-- Every flag that is not listed has its old value. -/
def FlagsKept (listed old new : Flags) : Prop :=
  (listed.z = false → new.z = old.z) ∧ (listed.s = false → new.s = old.s) ∧ (listed.p = false → new.p = old.p) ∧
    (listed.cy = false → new.cy = old.cy) ∧ (listed.ac = false → new.ac = old.ac)

theorem flagsKept_of_eq {listed old new : Flags} (h : new = old) : FlagsKept listed old new := by
  simp [FlagsKept, h]

/-- Where all five are listed, none has to be kept. -/
theorem flagsKept_of_all (old new : Flags) : FlagsKept ⟨true, true, true, true, true⟩ old new := by
  simp [FlagsKept]

/-- Where all but CY are listed, CY has to be kept (INR and DCR). -/
theorem flagsKept_of_cy {old new : Flags} (h : new.cy = old.cy) :
    FlagsKept ⟨true, true, true, false, true⟩ old new := by
  simp [FlagsKept, h]

/-- Where only CY is listed, the other four have to be kept. -/
theorem flagsKept_withCy (old : Flags) (cy : Bool) :
    FlagsKept ⟨false, false, false, true, false⟩ old { old with cy := cy } := by
  simp [FlagsKept]

/-- What a row assigns keeps the flags that the table of R14 does not list for it. -/
theorem flagsKept_assigned (s : State) (f : Form) : FlagsKept (flagsListed f) s.flags (assigned s f).flags := by
  cases f with
  | alu | daa | popPsw => exact flagsKept_of_all ..
  | inrReg | inrM | dcrReg | dcrM => exact flagsKept_of_cy rfl
  | dad | rlc | rrc | ral | rar | stc | cmc => exact flagsKept_withCy ..
  | ccc cond | rcc cond =>
    rw [assigned]
    cases s.flags.holds cond <;> exact flagsKept_of_eq rfl
  | _ => exact flagsKept_of_eq (by simp [assigned])

/-! ### Registers (R10) -/

theorem regsBut_of_reg_eq {ds : List Reg} {s t : State} (h : ∀ r, t.reg r = s.reg r) : RegsBut ds s t :=
  fun r _ => h r

/-- A write of flags after what keeps the registers keeps them. -/
theorem regsBut_setFlags {ds : List Reg} {s t : State} (h : RegsBut ds s t) (f : Flags) :
    RegsBut ds s (t.setFlags f) :=
  fun r hr => (State.reg_setFlags ..).trans (h r hr)

theorem regsBut_setCy {ds : List Reg} {s t : State} (h : RegsBut ds s t) (v : Bool) : RegsBut ds s (t.setCy v) :=
  fun r hr => (State.reg_setCy ..).trans (h r hr)

/-- A pop keeps the registers, so what is kept from there on is kept from before it (R171). -/
theorem regsBut_of_popped {ds : List Reg} {s t : State} (h : RegsBut ds s.popped t) : RegsBut ds s t :=
  fun r hr => (h r hr).trans (s.reg_popped r)

theorem regsBut_append {ds es : List Reg} {s t u : State} (hst : RegsBut ds s t) (htu : RegsBut es t u) :
    RegsBut (ds ++ es) s u := by
  intro r hr
  obtain ⟨hds, hes⟩ : r ∉ ds ∧ r ∉ es := by simpa using hr
  exact (htu r hes).trans (hst r hds)

theorem regsBut_aluAssigned (s : State) (v : Byte) (o : AluOp) :
    RegsBut (if o = .cmp then [] else [.a]) s (aluAssigned s v o) := by
  cases o with
  | cmp => exact regsBut_of_reg_eq (State.reg_setFlags s _)
  | _ => exact regsBut_setFlags (regsBut_setReg s .a _) _

/-- What a row assigns keeps every register that is none of its destinations. -/
theorem regsBut_assigned (s : State) (f : Form) : RegsBut (destinations f) s (assigned s f) := by
  cases f with
  | movRegReg r | movRegM r | mviReg r => exact regsBut_setReg s r _
  | inrReg r | dcrReg r => exact regsBut_setFlags (regsBut_setReg s r _) _
  | lda | ldax | cma => exact regsBut_setReg s .a _
  | lxi p | inx p | dcx p => exact regsBut_setPair s p _
  | pop p => exact regsBut_of_popped (regsBut_setPair s.popped p.toPair _)
  | alu o src => exact regsBut_aluAssigned s (s.source src) o
  | daa => exact regsBut_setFlags (regsBut_setReg s .a _) _
  | rlc | rrc | ral | rar => exact regsBut_setCy (regsBut_setReg s .a _) _
  | popPsw => exact regsBut_of_popped (regsBut_setFlags (regsBut_setReg s.popped .a (hiByte s.top16)) _)
  | lhld | xthl => exact regsBut_setPair s .hl _
  | dad => exact regsBut_setCy (regsBut_setPair s .hl _) _
  | xchg => exact regsBut_append (regsBut_setPair s .de s.hl) (regsBut_setPair _ .hl s.de)
  | ccc cond | rcc cond =>
    rw [assigned]
    cases s.flags.holds cond <;> exact regsBut_of_reg_eq (by simp)
  | _ => exact regsBut_of_reg_eq (by simp [assigned])

/-! ### Memory (R57) -/

/-- A row stores to the addresses listed for it. -/
theorem map_fst_stores (s : State) (f : Form) : (stores s f).map Prod.fst = storedTo f s := by
  cases f with
  | ccc cond =>
    rw [stores, storedTo]
    cases s.flags.holds cond <;> rfl
  | _ => rfl

theorem memBut_after (s : State) (f : Form) : MemBut (storedTo f s) s (after s f) := by
  intro addr h
  rw [← map_fst_stores] at h
  exact Memory.read_writeAll_of_notMem (stores s f) h

end Sys2Proof.Machine

namespace Sys2Proof.Proofs

open Machine Claims

/-- Settles O10: what every row does leaves PC where the law puts it. -/
theorem pcAdvanceLaw : Obligations.PcAdvanceLaw :=
  fun i s => ⟨_, exec_eq_after i s, pc_after s i.form⟩

/-- Settles O11: SP is among what a row assigns. -/
theorem stackPointerLaw : Obligations.StackPointerLaw :=
  fun i s => ⟨_, exec_eq_after i s, (sp_after ..).trans (sp_assigned s i.form)⟩

/-- Settles O12: by the table of R14, form by form. -/
theorem flagsNotListedKeepTheirValue : Obligations.FlagsNotListedKeepTheirValue :=
  fun i s => ⟨_, exec_eq_after i s, flags_after s i.form ▸ flagsKept_assigned s i.form⟩

/-- Settles O13: a row writes registers only through the writes of its destinations. -/
theorem registersNotDestinationsKeepTheirValue : Obligations.RegistersNotDestinationsKeepTheirValue :=
  fun i s => ⟨_, exec_eq_after i s, fun q hq => (reg_after ..).trans (regsBut_assigned s i.form q hq)⟩

/-- Settles O14: memory is written by the row's stores only. -/
theorem memoryOutsideTheStoresKeepsItsValue : Obligations.MemoryOutsideTheStoresKeepsItsValue :=
  fun i s => ⟨_, exec_eq_after i s, memBut_after s i.form⟩

/-- Settles O19: a step is the row fetched, which writes memory by a list of stores, and each store keeps the form. -/
theorem stepKeepsMemoryCanonical : Obligations.StepKeepsMemoryCanonical := by
  intro s t hs hstep
  obtain rfl : after s s.fetch.form = t := by simpa [step, exec_eq_after] using hstep
  exact Memory.wf_writeAll _ hs

/-- Settles O20: at reset no byte is listed. -/
theorem resetMemoryIsCanonical : Obligations.ResetMemoryIsCanonical :=
  ⟨List.Pairwise.nil, fun _ h => nomatch h⟩

end Sys2Proof.Proofs

/-! PROOFS. The outputs of a step (R76, R229, R241): which rows report, what a step costs, when the mark is set; and what
a row depends on: no output, and no byte of memory but those it reads (R57). -/

namespace Sys2Proof.Machine

open Claims

/-! ### Classes of rows (R70) -/

/-- The class of a row is that of its first byte. -/
theorem formClass_form (i : Instr) : formClass i.form =
    if opcode i ∈ Config.unknownSet then .unknown
    else if opcode i ∈ Config.nopDupSet then .nopDup
    else if opcode i ∈ Config.unimplementedSet then .unimplemented
    else .implemented := by
  obtain ⟨op, b2, b3, rfl⟩ := exists_instrOf_eq i
  rw [opcode_instrOf, instrOf, form_ofForm, formClass_formOf]

theorem formClass_form_eq_unknown_iff (i : Instr) :
    formClass i.form = .unknown ↔ opcode i ∈ Config.unknownSet := by
  rw [formClass_form]
  split_ifs <;> simp [*]

/-- No byte is both a NOP duplicate and unknown (R70). -/
theorem notMem_unknownSet_of_mem_nopDupSet {op : Byte} (h : op ∈ Config.nopDupSet) : op ∉ Config.unknownSet := by
  revert op
  decide

theorem formClass_form_of_mem_nopDupSet {i : Instr} (h : opcode i ∈ Config.nopDupSet) :
    formClass i.form = .nopDup := by
  rw [formClass_form, if_neg (notMem_unknownSet_of_mem_nopDupSet h), if_pos h]

theorem takes_of_formClass_nopDup {f : Form} (h : formClass f = .nopDup) (s : State) : takes f s = false := by
  cases f with
  | jcc | ccc | rcc => cases h
  | _ => rfl

/-! ### The outputs (R76) -/

/-- A report is made for the unknown first bytes only (R229, R241). -/
theorem reportOf_form (s : State) (i : Instr) :
    reportOf s i.form = if opcode i ∈ Config.unknownSet then some ⟨s.pc, opcode i⟩ else none := by
  rw [reportOf, ofForm_form]
  simp only [formClass_form_eq_unknown_iff]

theorem cycles_after_form (s : State) (i : Instr) :
    (after s i.form).cycles = cyclesOf s.cyclesParam (opcode i) (takes i.form s) := by
  rw [after, ofForm_form]

/-- The cost of an unknown byte is 0, and so it may be set apart (R277). -/
theorem cyclesOf_eq_ite (param : List CycleEntry) (op : Byte) (taken : Bool) :
    cyclesOf param op taken = if op ∈ Config.unknownSet then 0#8 else cyclesOf param op taken := by
  split_ifs with h
  · exact cyclesOf_unknown h param taken
  · rfl

/-- A NOP duplicate costs what NOP costs (R222). -/
theorem cycles_after_nopDup {i : Instr} (h : opcode i ∈ Config.nopDupSet) (s : State) :
    (after s i.form).cycles = cyclesOf s.cyclesParam (opcode .nop) false := by
  rw [cycles_after_form, takes_of_formClass_nopDup (formClass_form_of_mem_nopDupSet h)]
  exact cyclesOf_nopDup h s.cyclesParam false

theorem decodeErrorSeen_after_form (s : State) (i : Instr) :
    (after s i.form).decodeErrorSeen = (s.decodeErrorSeen || decide (opcode i ∈ Config.unknownSet)) := by
  rw [after, Bool.or_comm]
  simp only [formClass_form_eq_unknown_iff]

/-! ### What a row depends on (R57, R76) -/

/-- The registers, flags, SP and PC of `s` with the memory, the outputs, the mark and the CYCLES of `o`. -/
def State.cpuWith (s o : State) : State :=
  { s with
    mem := o.mem, cycles := o.cycles, report := o.report, decodeErrorSeen := o.decodeErrorSeen
    cyclesParam := o.cyclesParam }

@[simp] theorem State.reg_cpuWith (s o : State) (r : Reg) : (s.cpuWith o).reg r = s.reg r := by
  cases r <;> rfl

@[simp] theorem State.pair_cpuWith (s o : State) (p : Pair) : (s.cpuWith o).pair p = s.pair p := by
  cases p <;> rfl

@[simp] theorem State.indexAddr_cpuWith (s o : State) (x : IndexPair) : (s.cpuWith o).indexAddr x = s.indexAddr x := by
  cases x <;> rfl

@[simp] theorem State.setReg_cpuWith (s o : State) (r : Reg) (v : Byte) :
    (s.cpuWith o).setReg r v = (s.setReg r v).cpuWith o := by
  cases r <;> rfl

@[simp] theorem State.setPair_cpuWith (s o : State) (p : Pair) (v : Word) :
    (s.cpuWith o).setPair p v = (s.setPair p v).cpuWith o := by
  cases p <;> rfl

theorem aluAssigned_cpuWith (s o : State) (v : Byte) (op : AluOp) :
    aluAssigned (s.cpuWith o) v op = (aluAssigned s v op).cpuWith o := by
  cases op <;> rfl

/-- The same machine is the state with other outputs. -/
theorem cpuWith_of_sameMachine {s o : State} (h : SameMachine s o) : s.cpuWith o = o := by
  obtain ⟨hreg, hflags, hsp, hpc, -⟩ := h
  rw [State.cpuWith, hflags, hsp, hpc, show s.a = o.a from hreg .a, show s.b = o.b from hreg .b,
    show s.c = o.c from hreg .c, show s.d = o.d from hreg .d, show s.e = o.e from hreg .e,
    show s.h = o.h from hreg .h, show s.l = o.l from hreg .l]

section
variable {s o : State}

theorem readByte_cpuWith {addr : Word} (h : ∀ x ∈ [addr], o.mem.read x = s.mem.read x) :
    (s.cpuWith o).readByte addr = s.readByte addr :=
  h addr (by simp)

/-- A word reads the same in two memories that agree at its two addresses (R44). -/
theorem readWord_cpuWith {addr : Word} (h : ∀ x ∈ [addr, addr + 1#16], o.mem.read x = s.mem.read x) :
    (s.cpuWith o).readWord addr = s.readWord addr :=
  congrArg₂ joinBytes (h (addr + 1#16) (by simp)) (h addr (by simp))

theorem readM_cpuWith (h : ∀ x ∈ [s.hl], o.mem.read x = s.mem.read x) : (s.cpuWith o).readM = s.readM :=
  readByte_cpuWith h

theorem source_cpuWith {op : AluOp} {src : Src}
    (h : ∀ x ∈ loadedFrom (.alu op src) s, o.mem.read x = s.mem.read x) :
    (s.cpuWith o).source src = s.source src := by
  cases src with
  | m => exact readM_cpuWith h
  | reg r => exact State.reg_cpuWith s o r
  | imm => rfl

/-- What a row assigns depends on no byte but those it reads, and on no output. -/
theorem assigned_cpuWith {f : Form} (h : ∀ x ∈ loadedFrom f s, o.mem.read x = s.mem.read x) :
    assigned (s.cpuWith o) f = (assigned s f).cpuWith o := by
  cases f with
  | movRegM r => rw [assigned, assigned, readM_cpuWith h, State.setReg_cpuWith]
  | inrM | dcrM =>
    rw [assigned, assigned, readM_cpuWith h]
    rfl
  | lda a16 => rw [assigned, assigned, readByte_cpuWith h, State.setReg_cpuWith]
  | ldax x => rw [assigned, assigned, State.indexAddr_cpuWith, readByte_cpuWith h, State.setReg_cpuWith]
  | lhld a16 =>
    rw [assigned, assigned, readWord_cpuWith h]
    rfl
  | alu op src => rw [assigned, assigned, source_cpuWith h, aluAssigned_cpuWith]
  | pop p =>
    have htop : (s.cpuWith o).top16 = s.top16 := readWord_cpuWith h
    rw [assigned, assigned, htop]
    exact State.setPair_cpuWith s.popped o p.toPair s.top16
  | popPsw | xthl =>
    have htop : (s.cpuWith o).top16 = s.top16 := readWord_cpuWith h
    rw [assigned, assigned, htop]
    rfl
  | ccc cond | rcc cond =>
    rw [assigned, assigned, apply_ite (State.cpuWith · o)]
    rfl
  | movRegReg | mviReg | lxi | inx | dcx => simp [assigned]
  | inrReg | dcrReg | dad =>
    simp only [assigned, State.reg_cpuWith, State.setReg_cpuWith, State.pair_cpuWith]
    rfl
  | _ => rfl

/-- So are the bytes it stores and their addresses. -/
theorem stores_cpuWith {f : Form} (h : ∀ x ∈ loadedFrom f s, o.mem.read x = s.mem.read x) :
    stores (s.cpuWith o) f = stores s f := by
  cases f with
  | inrM | dcrM =>
    rw [stores, stores, readM_cpuWith h]
    rfl
  | movMReg r => cases r <;> rfl
  | stax x => cases x <;> rfl
  | push p => cases p <;> rfl
  | _ => rfl

/-- So is PC after it. -/
theorem pcAfter_cpuWith {f : Form} (h : ∀ x ∈ loadedFrom f s, o.mem.read x = s.mem.read x) :
    pcAfter f (s.cpuWith o) = pcAfter f s := by
  cases f with
  | ret => exact readWord_cpuWith h
  | rcc cond =>
    rw [loadedFrom] at h
    rw [pcAfter, pcAfter, show (s.cpuWith o).flags = s.flags from rfl]
    split_ifs at h ⊢ with hcond
    · exact readWord_cpuWith h
    · rfl
  | _ => rfl

/-- So the state a row ends in has the same registers, flags, SP and PC. -/
theorem after_cpuWith {f : Form} (h : ∀ x ∈ loadedFrom f s, o.mem.read x = s.mem.read x) :
    (∀ r, (after s f).reg r = (after (s.cpuWith o) f).reg r) ∧ (after s f).flags = (after (s.cpuWith o) f).flags ∧
      (after s f).sp = (after (s.cpuWith o) f).sp ∧ (after s f).pc = (after (s.cpuWith o) f).pc := by
  have hassigned := assigned_cpuWith h
  refine ⟨fun r => ?_, (congrArg State.flags hassigned).symm, (congrArg State.sp hassigned).symm,
    (pcAfter_cpuWith h).symm⟩
  rw [reg_after, reg_after, hassigned, State.reg_cpuWith]

/-- The bytes it stored read the same, whatever memory was before. -/
theorem readByte_after_cpuWith {f : Form} (h : ∀ x ∈ loadedFrom f s, o.mem.read x = s.mem.read x) {addr : Word}
    (haddr : addr ∈ storedTo f s) : (after s f).readByte addr = (after (s.cpuWith o) f).readByte addr := by
  rw [State.readByte, State.readByte, mem_after, mem_after, stores_cpuWith h]
  exact Memory.read_writeAll_of_mem _ _ _ (map_fst_stores s f ▸ haddr)

theorem fetch_of_sameMachine (h : SameMachine s o) : s.fetch = o.fetch := by
  obtain ⟨-, -, -, hpc, hmem⟩ := h
  simp only [State.fetch, State.readByte, hpc, hmem]

/-- Every row keeps two states the same machine. -/
theorem sameMachine_after (h : SameMachine s o) (f : Form) : SameMachine (after s f) (after o f) := by
  have ⟨_, _, _, _, hmem⟩ := h
  have hreads : ∀ x ∈ loadedFrom f s, o.mem.read x = s.mem.read x := fun x _ => congrArg (·.read x) hmem.symm
  rw [← cpuWith_of_sameMachine h]
  obtain ⟨hreg, hflags, hsp, hpc⟩ := after_cpuWith hreads
  refine ⟨hreg, hflags, hsp, hpc, ?_⟩
  rw [mem_after, mem_after, stores_cpuWith hreads, hmem]
  rfl

theorem reportOf_of_sameMachine (h : SameMachine s o) (f : Form) : reportOf s f = reportOf o f := by
  obtain ⟨-, -, -, hpc, -⟩ := h
  rw [reportOf, reportOf, hpc]

end

end Sys2Proof.Machine

namespace Sys2Proof.Proofs

open Machine Claims

/-- Settles O16: the outputs are those of the state a row ends in, with the class of the row read from its first
byte. -/
theorem outputsOfEveryInstruction : Obligations.OutputsOfEveryInstruction :=
  fun i s => ⟨_, exec_eq_after i s, (cycles_after_form s i).trans (cyclesOf_eq_ite ..),
    fun h => cycles_after_nopDup h s, reportOf_form s i, decodeErrorSeen_after_form s i, rfl⟩

/-- Settles O18: the first byte of the row fetched is the byte at PC. -/
theorem markIsSetByUnknownFirstBytesOnly : Obligations.MarkIsSetByUnknownFirstBytesOnly := by
  intro s
  refine ⟨_, exec_eq_after s.fetch s, ?_⟩
  rw [decodeErrorSeen_after_form, State.fetch, opcode_instrOf]
  simp

/-- Settles O15: what a row assigns, what it stores and where PC goes are the same for both memories, and an address
that is stored to reads what was stored last. -/
theorem dataReadOnlyWhereListed : Obligations.DataReadOnlyWhereListed := by
  intro i s m h
  obtain ⟨hreg, hflags, hsp, hpc⟩ := after_cpuWith (o := { s with mem := m }) h
  exact ⟨_, _, exec_eq_after i s, exec_eq_after i (s.cpuWith { s with mem := m }), hreg, hflags, hsp, hpc,
    fun addr haddr => readByte_after_cpuWith h haddr⟩

/-- Settles O17: the same row is fetched, and it assigns and stores the same, whatever the outputs were. -/
theorem outputsNeverFeedBack : Obligations.OutputsNeverFeedBack := by
  intro s o h
  refine ⟨_, _, exec_eq_after s.fetch s, exec_eq_after o.fetch o, ?_⟩
  rw [fetch_of_sameMachine h]
  exact ⟨sameMachine_after h o.fetch.form, reportOf_of_sameMachine h o.fetch.form⟩

end Sys2Proof.Proofs

/-! PROOFS. The assembler's check reads each spelling back (R63, R65, R73, R74). -/

namespace Sys2Proof

@[simp] theorem Reg.src_spelling (r : Reg) : r.spelling.src = some (.reg r) := by
  cases r <;> rfl

@[simp] theorem AsmOperand.src_m : AsmOperand.m.src = some .m := rfl

@[simp] theorem Pair.pair_spelling (p : Pair) : p.spelling.pair = .ok p := by
  cases p <;> rfl

@[simp] theorem IndexPair.index_spelling (x : IndexPair) : x.spelling.index = .ok x := by
  cases x <;> rfl

theorem stackForm_spelling (ofPair : StackPair → Form) (ofPsw : Form) (p : StackPair) :
    stackForm ofPair ofPsw p.spelling = .ok (ofPair p) := by
  cases p <;> rfl

@[simp] theorem AsmOperand.byte_num_toNat (v : Byte) : (AsmOperand.num v.toNat).byte = .ok v := by
  rw [AsmOperand.byte, if_pos v.isLt, BitVec.ofNat_toNat, BitVec.setWidth_eq]

@[simp] theorem AsmOperand.word_num_toNat (w : Word) : (AsmOperand.num w.toNat).word = .ok w := by
  rw [AsmOperand.word, if_pos w.isLt, BitVec.ofNat_toNat, BitVec.setWidth_eq]

@[simp] theorem AsmOperand.restart_num_val (n : Fin 8) : (AsmOperand.num n.val).restart = .ok n :=
  dif_pos n.isLt

/-- The check answers the form of the line a form is written as. The operands are read back by the lemmas above; a form
without operands has its own mnemonic. -/
theorem check_of_source_eq_some {f : Form} {line : SourceLine} (h : f.source = some line) : line.check = .ok f := by
  cases f with
  | nopDup | unknown => cases h
  | movRegReg | movRegM | movMReg =>
    cases h
    simp only [SourceLine.check, moveForm, Reg.src_spelling, AsmOperand.src_m]
  | mviReg | mviM =>
    cases h
    simp only [SourceLine.check, moveImmediateForm, Reg.src_spelling, AsmOperand.src_m, AsmOperand.byte_num_toNat,
      Except.map]
  | lxi =>
    cases h
    simp only [SourceLine.check, Pair.pair_spelling, AsmOperand.word_num_toNat, Except.bind, Except.map]
  | alu o src =>
    cases src <;> cases h <;>
      simp only [SourceLine.check, Mnemonic.unaryForm, Reg.src_spelling, AsmOperand.src_m,
        AsmOperand.byte_num_toNat, Except.map]
  | inrReg | inrM | dcrReg | dcrM =>
    cases h
    simp only [SourceLine.check, Mnemonic.unaryForm, stepForm, Reg.src_spelling, AsmOperand.src_m]
  | push p | pop p =>
    cases h
    exact stackForm_spelling _ _ p
  | lda | sta | lhld | shld | ldax | stax | inx | dcx | dad | jmp | jcc | call | ccc | rst | inPort | outPort =>
    cases h
    simp only [SourceLine.check, Mnemonic.unaryForm, Pair.pair_spelling, IndexPair.index_spelling,
      AsmOperand.byte_num_toNat, AsmOperand.word_num_toNat, AsmOperand.restart_num_val, Except.map]
  | _ =>
    cases h
    rfl

end Sys2Proof

namespace Sys2Proof.Proofs

/-- Settles O6: each operand is read back from its spelling. -/
theorem assemblerReadsBackWhatItWrites : Obligations.AssemblerReadsBackWhatItWrites :=
  fun _ _ => check_of_source_eq_some

end Sys2Proof.Proofs

/-! PROOFS. A store onto the next instruction (R53, R152), and the end of a run (R223, R274). -/

namespace Sys2Proof.Machine

open Claims

/-! ### The end of a run (R274) -/

/-- At a HLT a step goes on past it and changes no more (R223). -/
theorem step_of_atHlt {s : State} (h : s.atHlt = true) : step s = .next (ended .hlt false (s.pc + 1#16) s) := by
  have hbyte : s.readByte s.pc = 0x76#8 := eq_of_beq h
  have hfetch : s.fetch = .hlt := by
    rw [State.fetch, hbyte]
    rfl
  rw [step, hfetch]
  exact finish_ofForm .hlt s

/-- A step before a run of steps is a run of steps. -/
theorem Steps.head {s t u : State} (hstep : step s = .next t) (h : Steps t u) : Steps s u := by
  induction h with
  | refl => exact .tail s s t (.refl s) hstep
  | tail v w _ hlast ih => exact .tail s v w ih hlast

/-- A run that ends, ends one step past a HLT it has reached. -/
theorem exists_atHlt_of_runToHlt {n : Nat} {s t : State} (h : runToHlt n s = some t) :
    ∃ u, Steps s u ∧ u.atHlt = true ∧ step u = .next t := by
  induction n generalizing s with
  | zero => cases h
  | succ n ih =>
    rw [runToHlt] at h
    split at h
    · next v hstep =>
      split at h
      · next hhlt =>
        cases h
        exact ⟨s, .refl s, hhlt, hstep⟩
      · obtain ⟨u, hsteps, hhlt, hlast⟩ := ih h
        exact ⟨u, hsteps.head hstep, hhlt, hlast⟩
    · cases h
    · cases h

end Sys2Proof.Machine

namespace Sys2Proof.Proofs

open Machine Claims

/-- Settles O60: the run ends one step past a HLT, and that step changes PC and the outputs only. -/
theorem runEndsJustAfterHlt : Obligations.RunEndsJustAfterHlt := by
  intro n s t h
  obtain ⟨u, hsteps, hhlt, hlast⟩ := exists_atHlt_of_runToHlt h
  obtain rfl : ended .hlt false (u.pc + 1#16) u = t := by simpa [step_of_atHlt hhlt] using hlast
  exact ⟨u, hsteps, eq_of_beq hhlt, rfl, rfl, reg_ended .hlt false _ u, rfl, rfl⟩

/-- Settles O22: the store leaves the byte at the next PC and every other byte, so the next fetch reads it and the two
bytes after it. -/
theorem storeIsSeenByTheNextFetch : Obligations.StoreIsSeenByTheNextFetch := by
  intro s r hhl
  obtain ⟨-, -, hmov⟩ := movCopiesOneByte
  obtain ⟨t, hexec, hbyte, -, hmem, -, -, hpc⟩ := hmov r s
  replace hbyte : t.readByte (s.pc + 1#16) = s.reg r := hhl ▸ hbyte
  have hmem (k : Word) (hk : s.pc + k ≠ s.pc + 1#16) : t.readByte (s.pc + k) = s.readByte (s.pc + k) :=
    hmem _ fun haddr => hk ((List.mem_singleton.1 haddr).trans hhl)
  refine ⟨t, hexec, ?_⟩
  have h2 : s.pc + 1#16 + 1#16 = s.pc + 2#16 := by bv_omega
  have h3 : s.pc + 1#16 + 2#16 = s.pc + 3#16 := by bv_omega
  rw [step, State.fetch, hpc, hbyte, h2, h3, hmem 2#16 (by bv_omega), hmem 3#16 (by bv_omega)]

end Sys2Proof.Proofs

/-! PROOFS. SUB, SBB and CMP (R102, R132): the difference and its borrows in the words of the statements, then the
three instructions. -/

namespace Sys2Proof.Machine

open Claims

/-- The difference narrowed at the end is the difference of bytes (R5, R102). -/
theorem subResult_eq (a b : Byte) (bin : Bool) : subResult a b bin = a - b - bit bin := by
  apply BitVec.eq_of_toNat_eq
  rw [subResult, BitVec.toNat_ofInt, BitVec.toNat_sub, BitVec.toNat_sub, toNat_bit]
  have ha := a.isLt
  have hb := b.isLt
  have hbin := Bool.toNat_le bin
  omega

/-- Its flags, with the borrow-in as a byte (R102). -/
theorem subFlags_eq (a b : Byte) (bin : Bool) :
    subFlags a b bin = resultFlags (a - b - bit bin) (decide (a.toNat < b.toNat + (bit bin).toNat))
      (decide (a.toNat % 16 < b.toNat % 16 + (bit bin).toNat)) := by
  rw [subFlags, Flags.zsp_eq_resultFlags, subResult_eq, toNat_bit]

/-- The subtraction a row of accumulator form makes (R102). -/
theorem subFromA_ofForm (o : AluOp) (src : Src) (v : Byte) (bin : Bool) (s : State) :
    subFromA (Instr.ofForm (.alu o src)) v bin s =
      .next (ended (.alu o src) false (s.pc + sourceLength src) { s with
        a := s.a - v - bit bin
        flags := resultFlags (s.a - v - bit bin) (decide (s.a.toNat < v.toNat + (bit bin).toNat))
          (decide (s.a.toNat % 16 < v.toNat % 16 + (bit bin).toNat)) }) := by
  rw [subFromA, finish_ofForm, ofNat_length_alu, subResult_eq, subFlags_eq]
  rfl

end Sys2Proof.Machine

namespace Sys2Proof.Proofs

open Machine Claims

/-- Settles O24: both rows are a subtraction from A, SUB with borrow-in 0, which takes nothing away, and SBB with
borrow-in CY. -/
theorem subtractionWritesDifferenceAndBorrows : Obligations.SubtractionWritesDifferenceAndBorrows := by
  intro src s
  constructor
  · have h := subFromA_ofForm .sub src (s.source src) false s
    simp only [bit_false, BitVec.sub_zero, BitVec.toNat_zero, Nat.add_zero] at h
    exact (exec_ofForm _ s).trans h
  · exact (exec_ofForm _ s).trans (subFromA_ofForm .sbb src (s.source src) s.flags.cy s)

/-- Settles O26: the flags are those of the subtraction without borrow-in, whose difference is 0 when A equals the
operand. -/
theorem compareWritesFlagsOnly : Obligations.CompareWritesFlagsOnly := by
  intro src s v
  have hzero : decide (s.a - v = 0#8) = decide (s.a = v) := decide_eq_decide.2 sub_eq_zero
  have hflags := subFlags_eq s.a v false
  simp only [bit_false, BitVec.sub_zero, BitVec.toNat_zero, Nat.add_zero, resultFlags, hzero] at hflags
  rw [exec_ofForm, effect, aluEffect, compareWithA, finish_ofForm, ofNat_length_alu, hflags]
  rfl

end Sys2Proof.Proofs

/-! PROOFS. INR and DCR (R135 to R138): the flags of a step by one, the four rows, and that the two undo each other. -/

namespace Sys2Proof.Machine

open Claims

theorem Flags.increment_eq (f : Flags) (v : Byte) :
    f.increment v = resultFlags (v + 1#8) f.cy (decide (v.toNat % 16 = 15)) := by
  rw [Flags.increment, Flags.zsp_eq_resultFlags]
  rfl

theorem Flags.decrement_eq (f : Flags) (v : Byte) :
    f.decrement v = resultFlags (v - 1#8) f.cy (decide (v.toNat % 16 = 0)) := by
  rw [Flags.decrement, Flags.zsp_eq_resultFlags]
  rfl

/-- A row that steps one register: the register, the flags and the frame (R135, R137). -/
theorem ended_setReg_setFlags (f : Form) (pc : Word) (s : State) (r : Reg) (v : Byte) (flags : Flags) :
    let t := ended f false pc ((s.setReg r v).setFlags flags)
    t.reg r = v ∧ RegsBut [r] s t ∧ t.mem = s.mem ∧ t.sp = s.sp ∧ t.pc = pc ∧ t.flags = flags :=
  ⟨by simp, fun q hq => (reg_ended ..).trans (regsBut_setFlags (regsBut_setReg s r v) flags q hq),
    State.setReg_mem s r v, State.setReg_sp s r v, rfl, rfl⟩

/-- A row that steps the byte at HL: the byte, the flags and the frame (R136, R138). -/
theorem ended_writeM_setFlags (f : Form) (pc : Word) (s : State) (v : Byte) (flags : Flags) :
    let t := ended f false pc ((s.writeM v).setFlags flags)
    t.readByte s.hl = v ∧ RegsBut [] s t ∧ MemBut [s.hl] s t ∧ t.sp = s.sp ∧ t.pc = pc ∧ t.flags = flags :=
  ⟨State.readByte_writeByte_self s s.hl v, regsBut_of_reg_eq (by simp), memBut_writeByte s s.hl v, rfl, rfl, rfl⟩

/-- INR of a register (R135). -/
theorem exec_inrReg (r : Reg) (s : State) : exec (Instr.ofForm (.inrReg r)) s =
    .next (ended (.inrReg r) false (s.pc + 1#16) ((s.setReg r (s.reg r + 1#8)).setFlags
      (resultFlags (s.reg r + 1#8) s.flags.cy (decide ((s.reg r).toNat % 16 = 15))))) := by
  rw [exec_ofForm, effect, incrementReg, finish_ofForm, Flags.increment_eq, State.setFlags_pc, State.setReg_pc,
    Form.length]

/-- DCR of a register (R137). -/
theorem exec_dcrReg (r : Reg) (s : State) : exec (Instr.ofForm (.dcrReg r)) s =
    .next (ended (.dcrReg r) false (s.pc + 1#16) ((s.setReg r (s.reg r - 1#8)).setFlags
      (resultFlags (s.reg r - 1#8) s.flags.cy (decide ((s.reg r).toNat % 16 = 0))))) := by
  rw [exec_ofForm, effect, decrementReg, finish_ofForm, Flags.decrement_eq, State.setFlags_pc, State.setReg_pc,
    Form.length]

/-- INR of M (R136). -/
theorem exec_inrM (s : State) : exec .inrM s =
    .next (ended .inrM false (s.pc + 1#16) ((s.writeM (s.readM + 1#8)).setFlags
      (resultFlags (s.readM + 1#8) s.flags.cy (decide (s.readM.toNat % 16 = 15))))) := by
  rw [← Flags.increment_eq]
  exact finish_ofForm .inrM _

/-- DCR of M (R138). -/
theorem exec_dcrM (s : State) : exec .dcrM s =
    .next (ended .dcrM false (s.pc + 1#16) ((s.writeM (s.readM - 1#8)).setFlags
      (resultFlags (s.readM - 1#8) s.flags.cy (decide (s.readM.toNat % 16 = 0))))) := by
  rw [← Flags.decrement_eq]
  exact finish_ofForm .dcrM _

/-! ### Two steps that undo each other -/

/-- The row `i` writes the register `r` with `g` of its value, no other register, and keeps CY. -/
def StepsReg (i : Instr) (r : Reg) (g : Byte → Byte) : Prop :=
  ∀ s, ∃ t, exec i s = .next t ∧ t.reg r = g (s.reg r) ∧ RegsBut [r] s t ∧ t.flags.cy = s.flags.cy

/-- The row `i` writes the byte at HL with `g` of its value, no other byte, and keeps the registers and CY. -/
def StepsM (i : Instr) (g : Byte → Byte) : Prop :=
  ∀ s, ∃ t, exec i s = .next t ∧ t.readByte s.hl = g (s.readByte s.hl) ∧ RegsBut [] s t ∧ MemBut [s.hl] s t ∧
    t.flags.cy = s.flags.cy

/-- A row that writes a register and then one that writes it back restore every register and CY. -/
theorem StepsReg.undo {i j : Instr} {r : Reg} {g g' : Byte → Byte} (hi : StepsReg i r g) (hj : StepsReg j r g')
    (hg : ∀ v, g' (g v) = v) (s : State) : ∃ t u, exec i s = .next t ∧ exec j t = .next u ∧
      (∀ q, u.reg q = s.reg q) ∧ u.flags.cy = s.flags.cy := by
  obtain ⟨t, hst, htr, hframet, htcy⟩ := hi s
  obtain ⟨u, htu, hur, hframeu, hucy⟩ := hj t
  refine ⟨t, u, hst, htu, fun q => ?_, hucy.trans htcy⟩
  by_cases hq : q ∈ [r]
  · obtain rfl : q = r := by simpa using hq
    rw [hur, htr, hg]
  · exact (hframeu q hq).trans (hframet q hq)

theorem hl_eq_of_regsBut_nil {s t : State} (h : RegsBut [] s t) : t.hl = s.hl :=
  congrArg₂ joinBytes (h .h (by simp)) (h .l (by simp))

/-- A row that writes the byte at HL and then one that writes it back, at the same address since the first keeps HL,
restore memory and CY. -/
theorem StepsM.undo {i j : Instr} {g g' : Byte → Byte} (hi : StepsM i g) (hj : StepsM j g')
    (hg : ∀ v, g' (g v) = v) (s : State) : ∃ t u, exec i s = .next t ∧ exec j t = .next u ∧
      (∀ addr, u.readByte addr = s.readByte addr) ∧ u.flags.cy = s.flags.cy := by
  obtain ⟨t, hst, htm, hregs, hframet, htcy⟩ := hi s
  obtain ⟨u, htu, hum, -, hframeu, hucy⟩ := hj t
  rw [hl_eq_of_regsBut_nil hregs] at hum hframeu
  refine ⟨t, u, hst, htu, fun addr => ?_, hucy.trans htcy⟩
  by_cases haddr : addr ∈ [s.hl]
  · obtain rfl : addr = s.hl := by simpa using haddr
    rw [hum, htm, hg]
  · exact (hframeu addr haddr).trans (hframet addr haddr)

end Sys2Proof.Machine

namespace Sys2Proof.Proofs

open Machine Claims

/-- Settles O27: the register, or the byte at HL, is written, then the flags. -/
theorem incrementKeepsCarry : Obligations.IncrementKeepsCarry :=
  ⟨fun r s => ⟨_, exec_inrReg r s, ended_setReg_setFlags ..⟩, fun s => ⟨_, exec_inrM s, ended_writeM_setFlags ..⟩⟩

/-- Settles O28: as INR. -/
theorem decrementKeepsCarry : Obligations.DecrementKeepsCarry :=
  ⟨fun r s => ⟨_, exec_dcrReg r s, ended_setReg_setFlags ..⟩, fun s => ⟨_, exec_dcrM s, ended_writeM_setFlags ..⟩⟩

theorem stepsReg_inrReg (r : Reg) : StepsReg (Instr.ofForm (.inrReg r)) r (· + 1#8) := by
  intro s
  obtain ⟨t, hst, hreg, hframe, -, -, -, hflags⟩ := incrementKeepsCarry.1 r s
  exact ⟨t, hst, hreg, hframe, by rw [hflags, resultFlags]⟩

theorem stepsReg_dcrReg (r : Reg) : StepsReg (Instr.ofForm (.dcrReg r)) r (· - 1#8) := by
  intro s
  obtain ⟨t, hst, hreg, hframe, -, -, -, hflags⟩ := decrementKeepsCarry.1 r s
  exact ⟨t, hst, hreg, hframe, by rw [hflags, resultFlags]⟩

theorem stepsM_inrM : StepsM .inrM (· + 1#8) := by
  intro s
  obtain ⟨t, hst, hbyte, hregs, hframe, -, -, hflags⟩ := incrementKeepsCarry.2 s
  exact ⟨t, hst, hbyte, hregs, hframe, by rw [hflags, resultFlags]⟩

theorem stepsM_dcrM : StepsM .dcrM (· - 1#8) := by
  intro s
  obtain ⟨t, hst, hbyte, hregs, hframe, -, -, hflags⟩ := decrementKeepsCarry.2 s
  exact ⟨t, hst, hbyte, hregs, hframe, by rw [hflags, resultFlags]⟩

/-- Settles O29: INR and DCR write one operand, and adding 1 and taking it away undo each other modulo 256. -/
theorem incrementAndDecrementUndoEachOther : Obligations.IncrementAndDecrementUndoEachOther := by
  have hinc (v : Byte) : v + 1#8 - 1#8 = v := BitVec.add_sub_cancel v 1#8
  have hdec (v : Byte) : v - 1#8 + 1#8 = v := BitVec.sub_add_cancel v 1#8
  exact ⟨fun r => (stepsReg_inrReg r).undo (stepsReg_dcrReg r) hinc,
    fun r => (stepsReg_dcrReg r).undo (stepsReg_inrReg r) hdec,
    stepsM_inrM.undo stepsM_dcrM hinc, stepsM_dcrM.undo stepsM_inrM hdec⟩

end Sys2Proof.Proofs

/-! PROOFS. The stack and what goes over it (R21, R170 to R175, R184 to R187): PUSH and POP, the PSW word, calls and
returns; a pop reads back the push before it. -/

namespace Sys2Proof.Machine

open Claims

/-! ### A push (R170) -/

theorem State.readByte_push16_high (s : State) (v : Word) : (s.push16 v).readByte (s.sp - 1#16) = hiByte v := by
  rw [State.readByte_push16, if_neg (Word.sub_one_ne_sub_two s.sp), if_pos rfl]

theorem State.readByte_push16_low (s : State) (v : Word) : (s.push16 v).readByte (s.sp - 2#16) = loByte v := by
  rw [State.readByte_push16, if_pos rfl]

theorem memBut_push16 (s : State) (v : Word) : MemBut [s.sp - 1#16, s.sp - 2#16] s (s.push16 v) := by
  intro x hx
  obtain ⟨hhigh, hlow⟩ : x ≠ s.sp - 1#16 ∧ x ≠ s.sp - 2#16 := by simpa using hx
  rw [State.readByte_push16, if_neg hlow, if_neg hhigh]

/-- A row that pushes a word and no more: its two bytes, SP and the frame. -/
theorem ended_push16 (f : Form) (taken : Bool) (pc : Word) (s : State) (v : Word) :
    let t := ended f taken pc (s.push16 v)
    t.readByte (s.sp - 1#16) = hiByte v ∧ t.readByte (s.sp - 2#16) = loByte v ∧ t.sp = s.sp - 2#16 ∧
      RegsBut [] s t ∧ MemBut [s.sp - 1#16, s.sp - 2#16] s t ∧ t.flags = s.flags ∧ t.pc = pc :=
  ⟨s.readByte_push16_high v, s.readByte_push16_low v, rfl, regsBut_of_reg_eq (by simp), memBut_push16 s v, rfl, rfl⟩

/-! ### The instructions -/

/-- PUSH (R172). -/
theorem exec_push (p : StackPair) (s : State) : exec (Instr.ofForm (.push p)) s =
    .next (ended (.push p) false (s.pc + 1#16) (s.push16 (s.pair p.toPair))) := by
  rw [exec_ofForm, effect, finish_ofForm, State.push16_pc, Form.length]

/-- POP (R173). -/
theorem exec_pop (p : StackPair) (s : State) : exec (Instr.ofForm (.pop p)) s =
    .next (ended (.pop p) false (s.pc + 1#16) (s.popped.setPair p.toPair s.top16)) := by
  rw [exec_ofForm, effect, finish_ofForm, State.setPair_pc, State.popped_pc, Form.length]

/-- PUSH PSW (R174). -/
theorem exec_pushPsw (s : State) :
    exec .pushPsw s = .next (ended .pushPsw false (s.pc + 1#16) (s.push16 s.psw)) :=
  finish_ofForm .pushPsw _

/-- POP PSW (R175). -/
theorem exec_popPsw (s : State) :
    exec .popPsw s = .next (ended .popPsw false (s.pc + 1#16) (s.popped.setPsw s.top16)) :=
  finish_ofForm .popPsw _

/-- CALL: the address after its three bytes is pushed (R181, R184). -/
theorem exec_call (a16 : Word) (s : State) :
    exec (.call a16) s = .next (ended (.call a16) false a16 (s.push16 (s.pc + 3#16))) :=
  transfer_ofForm (.call a16) false a16 _

/-- RET: the word on top is popped into PC (R186). -/
theorem exec_ret (s : State) : exec .ret s = .next (ended .ret false s.top16 s.popped) :=
  transfer_ofForm .ret false s.top16 s.popped

/-! ### A pop after a push -/

theorem toPair_ne_sp (p : StackPair) : p.toPair ≠ .sp := by
  cases p <;> decide

/-- Taking a PSW word off the stack keeps every register but A (R175). -/
theorem regsBut_popPsw (s : State) (w : Word) : RegsBut [.a] s (s.popped.setPsw w) :=
  regsBut_of_popped (regsBut_setFlags (regsBut_setReg s.popped .a (hiByte w)) _)

/-- A pair written with another state's value gives its two registers from there (R11). -/
theorem reg_setPair_pair (s t : State) (p : Pair) (r : Reg) :
    (t.setPair p (s.pair p)).reg r = if r ∈ pairRegs p then s.reg r else t.reg r := by
  split_ifs with hr
  · cases p with
    | sp => cases hr
    | _ =>
      obtain rfl | rfl : r = _ ∨ r = _ := by simpa [pairRegs] using hr
      · exact hiByte_joinBytes _ _
      · exact loByte_joinBytes _ _
  · exact regsBut_setPair t p (s.pair p) r hr

/-! ### The flag byte (R21) -/

/-- The flag byte as a number: a sum of the weights of its bits, bit 1 set. -/
theorem Flags.toNat_pack (f : Flags) :
    f.pack.toNat = 128 * f.s.toNat + 64 * f.z.toNat + 16 * f.ac.toNat + 4 * f.p.toNat + 2 + f.cy.toNat := by
  obtain ⟨z, s, p, cy, ac⟩ := f
  revert z s p cy ac
  decide

@[simp] theorem Flags.unpack_pack (f : Flags) : Flags.unpack f.pack = f := by
  obtain ⟨z, s, p, cy, ac⟩ := f
  revert z s p cy ac
  decide

/-! ### A pop that restores (R171, R173, R175) -/

/-- POP of a word that is another state's pair, pushed from there, gives that state's registers, SP and flags, where no
others differ. -/
theorem exec_pop_restores {p : StackPair} {s t : State} (hregs : RegsBut (pairRegs p.toPair) s t)
    (htop : t.top16 = s.pair p.toPair) (hsp : t.sp = s.sp - 2#16) (hflags : t.flags = s.flags) :
    ∃ u, exec (Instr.ofForm (.pop p)) t = .next u ∧ (∀ r, u.reg r = s.reg r) ∧ u.sp = s.sp ∧ u.flags = s.flags := by
  refine ⟨_, exec_pop p t, fun r => ?reg, ?sp, (State.setPair_flags ..).trans hflags⟩
  case reg =>
    rw [reg_ended, htop, reg_setPair_pair]
    split_ifs with hr
    · rfl
    · exact (State.reg_popped t r).trans (hregs r hr)
  case sp =>
    refine (State.sp_setPair (toPair_ne_sp p) ..).trans ?_
    rw [State.popped_sp, hsp, BitVec.sub_add_cancel]

/-- POP PSW of a word that is another state's PSW, likewise. -/
theorem exec_popPsw_restores {s t : State} (hregs : RegsBut [.a] s t) (htop : t.top16 = s.psw)
    (hsp : t.sp = s.sp - 2#16) :
    ∃ u, exec .popPsw t = .next u ∧ (∀ r, u.reg r = s.reg r) ∧ u.flags = s.flags ∧ u.sp = s.sp := by
  refine ⟨_, exec_popPsw t, fun r => ?reg, ?flags, ?sp⟩
  case reg =>
    rw [reg_ended, htop]
    by_cases hr : r ∈ [Reg.a]
    · obtain rfl : r = .a := by simpa using hr
      exact hiByte_joinBytes s.a s.flags.pack
    · exact (regsBut_popPsw t s.psw r hr).trans (hregs r hr)
  case flags =>
    change Flags.unpack (loByte t.top16) = s.flags
    rw [htop, State.psw, loByte_joinBytes, Flags.unpack_pack]
  case sp =>
    change t.sp + 2#16 = s.sp
    rw [hsp, BitVec.sub_add_cancel]

/-- RET of a word pushed from another state, likewise, and PC is that word. -/
theorem exec_ret_restores {s t : State} (hregs : RegsBut [] s t) (hsp : t.sp = s.sp - 2#16)
    (hflags : t.flags = s.flags) :
    ∃ u, exec .ret t = .next u ∧ u.pc = t.top16 ∧ u.sp = s.sp ∧ (∀ r, u.reg r = s.reg r) ∧ u.flags = s.flags := by
  refine ⟨_, exec_ret t, rfl, ?sp, fun r => ?reg, hflags⟩
  case sp =>
    change t.sp + 2#16 = s.sp
    rw [hsp, BitVec.sub_add_cancel]
  case reg => rw [reg_ended, State.reg_popped, hregs r (by simp)]

end Sys2Proof.Machine

namespace Sys2Proof.Proofs

open Machine Claims

/-- Settles O38: PUSH is a push of the pair, POP a write of the pair with the word on top. -/
theorem pushAndPopMoveAPair : Obligations.PushAndPopMoveAPair := by
  intro p s
  refine ⟨⟨_, exec_push p s, ended_push16 ..⟩, ?pop⟩
  obtain ⟨hpair, hregs, hsp, hflags, hmem, hpc⟩ :=
    ended_setPair (.pop p) false (s.pc + 1#16) s.popped p.toPair s.top16
  exact ⟨_, exec_pop p s, hpair, hsp (toPair_ne_sp p), regsBut_of_popped hregs, hmem, hflags, hpc⟩

/-- Settles O39: the word POP reads is the pair PUSH stored, whatever the pair holds in between, and SP comes back. -/
theorem popReadsBackPush : Obligations.PopReadsBackPush := by
  intro p s v
  let t := ended (.push p) false (s.pc + 1#16) (s.push16 (s.pair p.toPair))
  have hregs : RegsBut (pairRegs p.toPair) s (t.setPair p.toPair v) := fun r hr => by
    rw [regsBut_setPair t p.toPair v r hr, reg_ended, State.reg_push16]
  have hsp : (t.setPair p.toPair v).sp = s.sp - 2#16 := State.sp_setPair (toPair_ne_sp p) t v
  have htop : (t.setPair p.toPair v).top16 = s.pair p.toPair := State.top16_of_push16 (State.setPair_mem ..) hsp
  obtain ⟨u, hpop, hrestored⟩ := exec_pop_restores hregs htop hsp (State.setPair_flags ..)
  exact ⟨t, u, exec_push p s, hpop, hrestored⟩

/-- Settles O40: the PSW word is A and the flag byte; PUSH PSW is a push of it, POP PSW takes A and the flags from the
word on top. -/
theorem pswLayout : Obligations.PswLayout := by
  intro s
  constructor
  · obtain ⟨hhigh, hlow, hsp, hregs, hmem, hflags, hpc⟩ := ended_push16 .pushPsw false (s.pc + 1#16) s s.psw
    rw [State.psw, hiByte_joinBytes] at hhigh
    rw [State.psw, loByte_joinBytes] at hlow
    exact ⟨_, exec_pushPsw s, hhigh, (congrArg BitVec.toNat hlow).trans s.flags.toNat_pack, hsp, hregs, hmem,
      hflags, hpc⟩
  · exact ⟨_, exec_popPsw s, hiByte_joinBytes _ _, congrArg Flags.unpack (loByte_joinBytes ..), rfl,
      fun q hq => (reg_ended ..).trans (regsBut_popPsw s s.top16 q hq), rfl, rfl⟩

/-- Settles O41: the word POP PSW reads is the PSW word PUSH PSW stored, and unpacking undoes packing. -/
theorem popPswReadsBackPushPsw : Obligations.PopPswReadsBackPushPsw := by
  intro s v f
  let t := ended .pushPsw false (s.pc + 1#16) (s.push16 s.psw)
  have hregs : RegsBut [.a] s ((t.setA v).setFlags f) := fun r hr =>
    (regsBut_setFlags (regsBut_setReg t .a v) f r hr).trans ((reg_ended ..).trans (State.reg_push16 ..))
  obtain ⟨u, hpop, hrestored⟩ := exec_popPsw_restores hregs (State.top16_of_push16 rfl rfl) rfl
  exact ⟨t, u, exec_pushPsw s, hpop, hrestored⟩

/-- Settles O44: CALL and a taken Ccc push the next address and go to the target; a Ccc not taken ends past the row. -/
theorem callsPushTheNextAddress : Obligations.CallsPushTheNextAddress := by
  intro a16 s pushed
  have hpushed (f : Form) (taken : Bool) : pushed (ended f taken a16 (s.push16 (s.pc + 3#16))) := by
    obtain ⟨hhigh, hlow, hsp, hregs, hmem, hflags, hpc⟩ := ended_push16 f taken a16 s (s.pc + 3#16)
    exact ⟨hhigh, hlow, hsp, hpc, hregs, hmem, hflags⟩
  exact ⟨⟨_, exec_call a16 s, hpushed ..⟩, fun _ =>
    ⟨fun h => ⟨_, exec_ccc_of_condition h a16, hpushed ..⟩, fun h => exec_ccc_of_not_condition h a16⟩⟩

/-- Settles O45: RET and a taken Rcc transfer to the word on top and pop it; an Rcc not taken ends past the row. -/
theorem returnsPopTheirTarget : Obligations.ReturnsPopTheirTarget := by
  intro s target
  exact ⟨exec_ret s, fun _ => ⟨fun h => exec_rcc_of_condition h, fun h => exec_rcc_of_not_condition h⟩⟩

/-- Settles O46: the word RET reads is the address CALL pushed. -/
theorem returnUndoesCall : Obligations.ReturnUndoesCall := by
  intro a16 s
  obtain ⟨-, -, hsp, hregs, -, hflags, -⟩ := ended_push16 (.call a16) false a16 s (s.pc + 3#16)
  obtain ⟨u, hret, hpc, hrestored⟩ := exec_ret_restores hregs hsp hflags
  exact ⟨_, u, exec_call a16 s, hret, hpc.trans (State.top16_of_push16 rfl rfl), hrestored⟩

end Sys2Proof.Proofs

/-! PROOFS. LXI, CMA, STC and CMC (R155, R204 to R206), the unimplemented and the unknown bytes (R223 to R229) and the
host's writes (R42, R55, R252). -/

namespace Sys2Proof.Machine

open Claims

/-- The complement as a number (R204). -/
theorem not_eq_ofNat_sub (v : Byte) : ~~~v = BitVec.ofNat 8 (255 - v.toNat) := by
  apply BitVec.eq_of_toNat_eq
  rw [BitVec.toNat_not, BitVec.toNat_ofNat, Nat.mod_eq_of_lt (by omega)]

/-- LXI of a pair of registers or of SP (R155). -/
theorem exec_lxi (p : Pair) (d16 : Word) (s : State) : exec (Instr.ofForm (.lxi p d16)) s =
    .next (ended (.lxi p d16) false (s.pc + 3#16) (s.setPair p d16)) := by
  rw [exec_ofForm, effect, finish_ofForm, State.setPair_pc, Form.length]

end Sys2Proof.Machine

namespace Sys2Proof.Proofs

open Machine Claims

/-- Settles O34: each LXI writes its pair, whose halves are the two bytes. -/
theorem lxiLoadsByteThreeHigh : Obligations.LxiLoadsByteThreeHigh := by
  intro b2 b3 s
  have hbc : s.setPair .bc (joinBytes b3 b2) = { s with b := b3, c := b2 } := by
    rw [State.setPair, hiByte_joinBytes, loByte_joinBytes]
  have hde : s.setPair .de (joinBytes b3 b2) = { s with d := b3, e := b2 } := by
    rw [State.setPair, hiByte_joinBytes, loByte_joinBytes]
  have hhl : s.setPair .hl (joinBytes b3 b2) = { s with h := b3, l := b2 } := by
    rw [State.setPair, State.setHl, hiByte_joinBytes, loByte_joinBytes]
  exact ⟨hbc ▸ exec_lxi .bc _ s, hde ▸ exec_lxi .de _ s, hhl ▸ exec_lxi .hl _ s, exec_lxi .sp _ s⟩

/-- Settles O49: the three rows write A or CY and end past the row. -/
theorem complementAndCarry : Obligations.ComplementAndCarry := by
  intro s
  refine ⟨?cma, finish_ofForm .stc _, finish_ofForm .cmc _⟩
  case cma =>
    rw [← not_eq_ofNat_sub]
    exact finish_ofForm .cma _

/-- Settles O57: every one of the rows ends past itself on the state it found. -/
theorem unimplementedChangeOnlyPc : Obligations.UnimplementedChangeOnlyPc := by
  intro s
  refine ⟨finish_ofForm .hlt s, fun n => ?rst, fun v => finish_ofForm (.inPort v) s,
    fun v => finish_ofForm (.outPort v) s, finish_ofForm .ei s, finish_ofForm .di s⟩
  case rst => rw [exec_ofForm, effect, finish_ofForm, Form.length]

/-- Settles O58: the five rows report alike, each its own byte. -/
theorem unknownByteIsReportedAndSkipped : Obligations.UnknownByteIsReportedAndSkipped := by
  intro k s
  rw [exec_ofForm, effect, reportDecodeError, opcode_unknown]

/-- Settles O59: the host's write is one store of one byte, and the dump has no byte of memory. -/
theorem hostWriteChangesOneByte : Obligations.HostWriteChangesOneByte :=
  fun s addr v => ⟨s.readByte_writeByte_self addr v,
    fun other hother => memBut_writeByte s addr v other (by simpa using hother), rfl, rfl⟩

end Sys2Proof.Proofs

/-! PROOFS. The rotates (R200 to R203): each as arithmetic and as a ring of bits turned by one place, so that as many
turns as the ring has bits come round. -/

namespace Sys2Proof.Machine

open Claims

/-! ### The rotated byte as a number and bit by bit -/

theorem rotateLeftIn_eq (a : Byte) (c : Bool) : rotateLeftIn a c = BitVec.ofNat 8 (a.toNat * 2 % 256 + c.toNat) := by
  apply BitVec.eq_of_toNat_eq
  have hbit : c.toNat < 2 ^ 1 := c.toNat_lt
  rw [rotateLeftIn, BitVec.toNat_append, BitVec.extractLsb'_toNat, BitVec.toNat_ofBool,
    ← Nat.shiftLeft_add_eq_or_of_lt hbit, BitVec.toNat_ofNat, Nat.shiftLeft_eq, Nat.shiftRight_zero]
  omega

theorem rotateRightIn_eq (a : Byte) (c : Bool) :
    rotateRightIn a c = BitVec.ofNat 8 (a.toNat / 2 + c.toNat * 128) := by
  apply BitVec.eq_of_toNat_eq
  have ha := a.isLt
  have hc := c.toNat_lt
  have hhalf : a.toNat / 2 < 2 ^ 7 := by omega
  rw [rotateRightIn, BitVec.toNat_append, BitVec.extractLsb'_toNat, BitVec.toNat_ofBool, Nat.shiftRight_one,
    Nat.mod_eq_of_lt hhalf, ← Nat.shiftLeft_add_eq_or_of_lt hhalf, BitVec.toNat_ofNat, Nat.shiftLeft_eq]
  omega

theorem getLsbD_rotateLeftIn (a : Byte) (c : Bool) {i : Nat} (h : i < 8) :
    (rotateLeftIn a c).getLsbD i = if i = 0 then c else a.getLsbD (i - 1) := by
  rw [rotateLeftIn, BitVec.getLsbD_append]
  split_ifs with h1 h2 h3
  · simp [h2]
  · omega
  · omega
  · simp [show i - 1 < 7 by omega]

theorem getLsbD_rotateRightIn (a : Byte) (c : Bool) {i : Nat} (h : i < 8) :
    (rotateRightIn a c).getLsbD i = if i = 7 then c else a.getLsbD (i + 1) := by
  rw [rotateRightIn, BitVec.getLsbD_append]
  split_ifs with h1 h2 h3
  · omega
  · simp [h1, Nat.add_comm]
  · simp [h3]
  · omega

/-! ### The instructions -/

theorem exec_rlc (s : State) : exec .rlc s = .next (ended .rlc false (s.pc + 1#16)
    ((s.setA (rotateLeftIn s.a (s.a.getLsbD 7))).setCy (s.a.getLsbD 7))) :=
  finish_ofForm .rlc _

theorem exec_rrc (s : State) : exec .rrc s = .next (ended .rrc false (s.pc + 1#16)
    ((s.setA (rotateRightIn s.a (s.a.getLsbD 0))).setCy (s.a.getLsbD 0))) :=
  finish_ofForm .rrc _

theorem exec_ral (s : State) : exec .ral s = .next (ended .ral false (s.pc + 1#16)
    ((s.setA (rotateLeftIn s.a s.flags.cy)).setCy (s.a.getLsbD 7))) :=
  finish_ofForm .ral _

theorem exec_rar (s : State) : exec .rar s = .next (ended .rar false (s.pc + 1#16)
    ((s.setA (rotateRightIn s.a s.flags.cy)).setCy (s.a.getLsbD 0))) :=
  finish_ofForm .rar _

/-! ### Turning a ring of bits -/

/-- Repeated execution of a row that answers `g` of the state iterates `g`. -/
theorem repeated_eq_iterate {i : Instr} {g : State → State} (h : ∀ s, exec i s = .next (g s)) (n : Nat) (s : State) :
    repeated i n s = some (g^[n] s) := by
  induction n generalizing s with
  | zero => rfl
  | succ n ih => rw [repeated_succ (h s), ih, Function.iterate_succ_apply]

section
variable {g : State → State} {ring : State → Nat → Bool} {w : Nat}

/-- A ring of `w` bits that every step turns up by one place is as before after `w` steps. -/
theorem ring_iterate_of_up (hring : ∀ s i, ring s (i + w) = ring s i)
    (hup : ∀ s i, ring (g s) (i + 1) = ring s i)
    (s : State) : ring (g^[w] s) = ring s := by
  have hturn (n : Nat) (i : Nat) : ring (g^[n] s) (i + n) = ring s i := by
    induction n with
    | zero => rfl
    | succ n ih => rw [Function.iterate_succ_apply', ← Nat.add_assoc, hup, ih]
  funext i
  rw [← hring, hturn]

/-- So is a ring that every step turns down by one place. -/
theorem ring_iterate_of_down (hring : ∀ s i, ring s (i + w) = ring s i)
    (hdown : ∀ s i, ring (g s) i = ring s (i + 1))
    (s : State) : ring (g^[w] s) = ring s := by
  have hturn (n : Nat) (i : Nat) : ring (g^[n] s) i = ring s (i + n) := by
    induction n generalizing i with
    | zero => rfl
    | succ n ih => rw [Function.iterate_succ_apply', hdown, ih, Nat.add_assoc, Nat.add_comm 1]
  funext i
  rw [hturn, hring]

end

/-- The eight bits of A as a ring. -/
def ringA (s : State) (i : Nat) : Bool := s.a.getLsbD (i % 8)

/-- The eight bits of A and CY above them as a ring of nine. -/
def ringCyA (s : State) (i : Nat) : Bool := if i % 9 = 8 then s.flags.cy else s.a.getLsbD (i % 9)

theorem ringA_add_eight (s : State) (i : Nat) : ringA s (i + 8) = ringA s i := by
  rw [ringA, Nat.add_mod_right, ringA]

theorem ringCyA_add_nine (s : State) (i : Nat) : ringCyA s (i + 9) = ringCyA s i := by
  rw [ringCyA, Nat.add_mod_right, ringCyA]

theorem a_eq_of_ringA_eq {s t : State} (h : ringA t = ringA s) : t.a = s.a := by
  apply BitVec.eq_of_getLsbD_eq
  intro i hi
  have hbit := congrFun h i
  rwa [ringA, ringA, Nat.mod_eq_of_lt hi] at hbit

theorem a_eq_of_ringCyA_eq {s t : State} (h : ringCyA t = ringCyA s) : t.a = s.a := by
  apply BitVec.eq_of_getLsbD_eq
  intro i hi
  have hbit := congrFun h i
  rwa [ringCyA, ringCyA, Nat.mod_eq_of_lt (by omega), if_neg (by omega), if_neg (by omega)] at hbit

theorem cy_eq_of_ringCyA_eq {s t : State} (h : ringCyA t = ringCyA s) : t.flags.cy = s.flags.cy :=
  congrFun h 8

/-- The flags with CY blanked out. -/
def flagsButCy (s : State) : Flags := { s.flags with cy := false }

theorem flags_eq_of_flagsButCy_eq {s t : State} (hcy : t.flags.cy = s.flags.cy) (h : flagsButCy t = flagsButCy s) :
    t.flags = s.flags := by
  calc t.flags = { flagsButCy t with cy := t.flags.cy } := rfl
    _ = { flagsButCy s with cy := s.flags.cy } := by rw [h, hcy]
    _ = s.flags := rfl

/-- A row whose nine turns bring A and CY round, and that keeps the other flags, restores A and all flags. -/
theorem restores_of_ringCyA {i : Instr} {g : State → State} (hexec : ∀ s, exec i s = .next (g s))
    (hring : ∀ s, ringCyA (g^[9] s) = ringCyA s) (hkept : ∀ s, flagsButCy (g s) = flagsButCy s) (s : State) :
    ∃ t, repeated i 9 s = some t ∧ t.a = s.a ∧ t.flags = s.flags := by
  have hothers : flagsButCy ∘ g = flagsButCy := funext hkept
  exact ⟨_, repeated_eq_iterate hexec 9 s, a_eq_of_ringCyA_eq (hring s),
    flags_eq_of_flagsButCy_eq (cy_eq_of_ringCyA_eq (hring s)) (congrFun (Function.iterate_invariant hothers 9) s)⟩

/-! ### The four rotates come round -/

/-- RLC turns the ring of A's bits up by one place: bit 7 goes to bit 0 (R200). -/
theorem rlc_comes_round (s : State) : ∃ t, repeated .rlc 8 s = some t ∧ t.a = s.a := by
  refine ⟨_, repeated_eq_iterate exec_rlc 8 s,
    a_eq_of_ringA_eq (ring_iterate_of_up ringA_add_eight (fun s i => ?_) s)⟩
  change (rotateLeftIn s.a (s.a.getLsbD 7)).getLsbD ((i + 1) % 8) = s.a.getLsbD (i % 8)
  rw [getLsbD_rotateLeftIn _ _ (by omega)]
  split_ifs with h
  · rw [show i % 8 = 7 by omega]
  · rw [show (i + 1) % 8 - 1 = i % 8 by omega]

/-- RRC turns it down by one place: bit 0 goes to bit 7 (R201). -/
theorem rrc_comes_round (s : State) : ∃ t, repeated .rrc 8 s = some t ∧ t.a = s.a := by
  refine ⟨_, repeated_eq_iterate exec_rrc 8 s,
    a_eq_of_ringA_eq (ring_iterate_of_down ringA_add_eight (fun s i => ?_) s)⟩
  change (rotateRightIn s.a (s.a.getLsbD 0)).getLsbD (i % 8) = s.a.getLsbD ((i + 1) % 8)
  rw [getLsbD_rotateRightIn _ _ (by omega)]
  split_ifs with h
  · rw [show (i + 1) % 8 = 0 by omega]
  · rw [show i % 8 + 1 = (i + 1) % 8 by omega]

/-- RAL turns the ring of A's bits and CY up by one place: bit 7 goes to CY and CY to bit 0 (R202). -/
theorem ral_comes_round (s : State) : ∃ t, repeated .ral 9 s = some t ∧ t.a = s.a ∧ t.flags = s.flags := by
  refine restores_of_ringCyA exec_ral (ring_iterate_of_up ringCyA_add_nine fun s i => ?_) (fun _ => rfl) s
  change (if (i + 1) % 9 = 8 then s.a.getLsbD 7 else (rotateLeftIn s.a s.flags.cy).getLsbD ((i + 1) % 9)) =
    if i % 9 = 8 then s.flags.cy else s.a.getLsbD (i % 9)
  by_cases htop : i % 9 = 7
  · rw [if_pos (by omega), if_neg (by omega), htop]
  · rw [if_neg (by omega), getLsbD_rotateLeftIn _ _ (by omega)]
    split_ifs
    · rfl
    · omega
    · omega
    · rw [show (i + 1) % 9 - 1 = i % 9 by omega]

/-- RAR turns it down by one place: bit 0 goes to CY and CY to bit 7 (R203). -/
theorem rar_comes_round (s : State) : ∃ t, repeated .rar 9 s = some t ∧ t.a = s.a ∧ t.flags = s.flags := by
  refine restores_of_ringCyA exec_rar (ring_iterate_of_down ringCyA_add_nine fun s i => ?_) (fun _ => rfl) s
  change (if i % 9 = 8 then s.a.getLsbD 0 else (rotateRightIn s.a s.flags.cy).getLsbD (i % 9)) =
    if (i + 1) % 9 = 8 then s.flags.cy else s.a.getLsbD ((i + 1) % 9)
  by_cases htop : i % 9 = 8
  · rw [if_pos htop, if_neg (by omega), show (i + 1) % 9 = 0 by omega]
  · rw [if_neg htop, getLsbD_rotateRightIn _ _ (by omega)]
    split_ifs
    · rfl
    · omega
    · omega
    · rw [show i % 9 + 1 = (i + 1) % 9 by omega]

end Sys2Proof.Machine

namespace Sys2Proof.Proofs

open Machine Claims

/-- Settles O47: each row ends past itself with A rotated and CY the bit rotated out. -/
theorem rotatesMoveOneBit : Obligations.RotatesMoveOneBit := by
  intro s top bottom
  have htop : s.a.getLsbD 7 = top := getLsbD_seven_eq_decide s.a
  have hbottom : s.a.getLsbD 0 = bottom := Nat.testBit_zero s.a.toNat
  rw [exec_rlc, exec_rrc, exec_ral, exec_rar, rotateLeftIn_eq, rotateLeftIn_eq, rotateRightIn_eq, rotateRightIn_eq,
    htop, hbottom]
  exact ⟨rfl, rfl, rfl, rfl⟩

/-- Settles O48: each rotate turns a ring of eight or nine bits by one place. -/
theorem rotatesComeRound : Obligations.RotatesComeRound :=
  fun s => ⟨rlc_comes_round s, rrc_comes_round s, ral_comes_round s, rar_comes_round s⟩

end Sys2Proof.Proofs

/-! PROOFS. DAA (R220): the model's correction in the words of the statements, its sequential reading, and the
decimal sum it makes of an addition of packed-BCD bytes. -/

namespace Sys2Proof.Machine

open Claims

theorem daaLow_iff (a : Byte) (ac : Bool) : daaLow a ac = true ↔ 9 < a.toNat % 16 ∨ ac = true := by
  simp [daaLow, lowNibble]

theorem daaHigh_iff (a : Byte) (cy : Bool) : daaHigh a cy = true ↔
    9 < a.toNat / 16 ∨ cy = true ∨ (9 ≤ a.toNat / 16 ∧ 9 < a.toNat % 16) := by
  simp [daaHigh, lowNibble, highNibble, or_assoc]

theorem daaCorrection_eq (a : Byte) (cy ac : Bool) : daaCorrection a cy ac =
    (if 9 < a.toNat % 16 ∨ ac = true then 6 else 0) +
      (if 9 < a.toNat / 16 ∨ cy = true ∨ (9 ≤ a.toNat / 16 ∧ 9 < a.toNat % 16) then 96 else 0) := by
  simp only [daaCorrection, daaLow_iff, daaHigh_iff]

/-- The flags of DAA, CY set with the high correction (R220). -/
theorem Flags.decimal_eq (f : Flags) (a : Byte) : f.decimal a = resultFlags (daaResult a f.cy f.ac)
    (decide ((9 < a.toNat / 16 ∨ f.cy = true ∨ (9 ≤ a.toNat / 16 ∧ 9 < a.toNat % 16)) ∨ f.cy = true))
    (decide (15 < a.toNat % 16 + daaCorrection a f.cy f.ac % 16)) := by
  have hcy : (f.cy || daaHigh a f.cy) =
      decide ((9 < a.toNat / 16 ∨ f.cy = true ∨ (9 ≤ a.toNat / 16 ∧ 9 < a.toNat % 16)) ∨ f.cy = true) := by
    rw [Bool.eq_iff_iff, Bool.or_eq_true, decide_eq_true_iff, daaHigh_iff, or_comm]
  rw [Flags.decimal, Flags.zsp_eq_resultFlags, hcy]
  rfl

/-- DAA (R220). -/
theorem exec_daa (s : State) : exec .daa s = .next (ended .daa false (s.pc + 1#16)
    ((s.setA (daaResult s.a s.flags.cy s.flags.ac)).setFlags (s.flags.decimal s.a))) :=
  finish_ofForm .daa _

/-- After the low correction the high nibble exceeds 9 exactly when it does before, or is 9 with a low nibble above 9
that carries into it: so one test on the first value tells what the two steps do (R220). -/
theorem nine_lt_div_after_low_iff (n : Nat) (ac : Bool) :
    9 < (if 9 < n % 16 ∨ ac = true then n + 6 else n) / 16 ↔ 9 < n / 16 ∨ (9 ≤ n / 16 ∧ 9 < n % 16) := by
  split_ifs <;> omega

/-- The sequential reading of DAA gives the model's A, CY and AC (R220). -/
theorem daaInTwoSteps_eq (f : Flags) (a : Byte) :
    daaInTwoSteps a f.cy f.ac = (daaResult a f.cy f.ac, (f.decimal a).cy, (f.decimal a).ac) := by
  have hhigh : (9 < (if 9 < a.toNat % 16 ∨ f.ac = true then a.toNat + 6 else a.toNat) / 16 ∨ f.cy = true) ↔
      9 < a.toNat / 16 ∨ f.cy = true ∨ (9 ≤ a.toNat / 16 ∧ 9 < a.toNat % 16) := by
    rw [nine_lt_div_after_low_iff]
    tauto
  rw [daaInTwoSteps, Flags.decimal_eq, daaResult, daaCorrection_eq]
  simp only [hhigh, resultFlags]
  clear hhigh
  refine Prod.ext ?result (Prod.ext ?carry ?halfCarry)
  case result => exact congrArg (BitVec.ofNat 8) (by split_ifs <;> omega)
  case carry => exact decide_eq_decide.2 (by tauto)
  case halfCarry =>
    refine decide_eq_decide.2 ?_
    split_ifs <;> omega

/-! ### The decimal sum (R220, D9) -/

section
variable {x y r v : Nat}

/-- The low test on the binary sum `r`, where `x` and `y` are the sums of the low and of the high digits of two
operands: `x` is no digit. -/
theorem low_test_iff (hx : x ≤ 19) (hr : r = (16 * y + x) % 256) : 9 < r % 16 ∨ 15 < x ↔ 9 < x := by
  omega

/-- The high test: the decimal sum has a third digit. -/
theorem high_test_iff (hx : x ≤ 19) (hy : y ≤ 18) (hr : r = (16 * y + x) % 256) :
    9 < r / 16 ∨ 255 < 16 * y + x ∨ (9 ≤ r / 16 ∧ 9 < r % 16) ↔ 99 < 10 * y + x := by
  omega

/-- Corrected by the two tests, the nibbles of the binary sum are the digits of the decimal sum. -/
theorem corrected_sum_is_decimal (hx : x ≤ 19) (hy : y ≤ 18) (hr : r = (16 * y + x) % 256)
    (hv : v = (r + ((if 9 < x then 6 else 0) + if 99 < 10 * y + x then 96 else 0)) % 256) :
    (v / 16 ≤ 9 ∧ v % 16 ≤ 9) ∧
      10 * y + x = 10 * (v / 16) + v % 16 + 100 * (if 99 < 10 * y + x then 1 else 0) := by
  split_ifs at hv ⊢ <;> omega

end

/-- DAA of the sum of two packed-BCD bytes and a carry. -/
theorem daa_of_decimal_sum {a b r : Byte} {c cy ac : Bool} (ha : isDecimal a) (hb : isDecimal b)
    (hr : r.toNat = (a.toNat + b.toNat + c.toNat) % 256) (hcy : cy = true ↔ 255 < a.toNat + b.toNat + c.toNat)
    (hac : ac = true ↔ 15 < a.toNat % 16 + b.toNat % 16 + c.toNat) :
    isDecimal (daaResult r cy ac) ∧
      decimal a + decimal b + c.toNat = decimal (daaResult r cy ac) + 100 * (cy || daaHigh r cy).toNat := by
  obtain ⟨x, hx⟩ : ∃ x, a.toNat % 16 + b.toNat % 16 + c.toNat = x := ⟨_, rfl⟩
  obtain ⟨y, hy⟩ : ∃ y, a.toNat / 16 + b.toNat / 16 = y := ⟨_, rfl⟩
  have hdecimal : decimal a + decimal b + c.toNat = 10 * y + x := by
    rw [decimal, decimal, ← hx, ← hy]
    ring
  have hbinary : a.toNat + b.toNat + c.toNat = 16 * y + x := by
    rw [← hx, ← hy]
    omega
  have hx19 : x ≤ 19 := hx ▸ Nat.add_le_add (Nat.add_le_add ha.2 hb.2) c.toNat_le
  have hy18 : y ≤ 18 := hy ▸ Nat.add_le_add ha.1 hb.1
  rw [hbinary] at hr hcy
  rw [hx] at hac
  have hresult : (daaResult r cy ac).toNat =
      (r.toNat + ((if 9 < x then 6 else 0) + if 99 < 10 * y + x then 96 else 0)) % 256 := by
    rw [daaResult, daaCorrection_eq, BitVec.toNat_ofNat]
    simp only [hac, hcy, low_test_iff hx19 hr, high_test_iff hx19 hy18 hr]
  have hout : (cy || daaHigh r cy) = decide (99 < 10 * y + x) := by
    rw [Bool.eq_iff_iff, Bool.or_eq_true, daaHigh_iff, decide_eq_true_iff, hcy, ← high_test_iff hx19 hy18 hr]
    tauto
  rw [hdecimal, hout, Bool.toNat, Bool.cond_decide]
  exact corrected_sum_is_decimal hx19 hy18 hr hresult

end Sys2Proof.Machine

namespace Sys2Proof.Proofs

open Machine Claims

/-- Settles O53: the model's correction, result and flags in the words of the statement. -/
theorem daaCorrectsBothNibbles : Obligations.DaaCorrectsBothNibbles := by
  intro s lo hi low high corr r
  have hr : daaResult s.a s.flags.cy s.flags.ac = r := by
    rw [daaResult, daaCorrection_eq]
  rw [exec_daa, Flags.decimal_eq, hr, daaCorrection_eq]
  rfl

/-- Settles O54: the two readings add the same correction, since the high test of the model allows for what the low step
carries into the high nibble. -/
theorem daaAgreesWithItsSequentialReading : Obligations.DaaAgreesWithItsSequentialReading := by
  intro s
  refine ⟨_, exec_daa s, ?_⟩
  change (daaResult s.a s.flags.cy s.flags.ac, (s.flags.decimal s.a).cy, (s.flags.decimal s.a).ac) = _
  exact (daaInTwoSteps_eq s.flags s.a).symm

/-- Settles O55: ADC leaves the binary sum with its carries, which DAA turns into the decimal sum. -/
theorem daaAfterAdditionIsTheDecimalSum : Obligations.DaaAfterAdditionIsTheDecimalSum := by
  intro s ha hb
  obtain ⟨-, hadc⟩ := additionWritesSumAndFlags (.reg .b) s
  have hsum : (s.a + s.b + bit s.flags.cy).toNat = (s.a.toNat + s.b.toNat + s.flags.cy.toNat) % 256 := by
    rw [← addResult_eq, addResult, BitVec.toNat_ofNat]
  simp only [toNat_bit] at hadc
  exact ⟨_, _, hadc, exec_daa _, daa_of_decimal_sum ha hb hsum decide_eq_true_iff decide_eq_true_iff⟩

end Sys2Proof.Proofs
